-- ==== Sys2Proof/Word.lean ====
section
/-! DEFINITION. The bit-vector types of the block (00_scope.md R5, R7): registers are 32 bits, an offset in the
1024-byte window is 10 bits, a frame is 8 bits. -/

namespace Sys2Proof

/-- A frame of the SPI bus and an entry of the receive FIFO. -/
abbrev Byte := BitVec 8

/-- The operand and the response of a 16-bit access; the width of the DR field (R26). -/
abbrev Half := BitVec 16

/-- A register value (R5: "The register width is 32 bits"). -/
abbrev Word := BitVec 32

/-- A byte offset in the window (R5: "The address width inside the window is 10 bits"). -/
abbrev Offset := BitVec 10

end Sys2Proof
end

