-- ==== Sys2Proof/Syntax.lean ====
section
/-! DEFINITION. The vocabulary of the block: access sizes, registers, requests as they arrive (R70), decoded requests
(one constructor per row of spec/opcode_table.json), responses (R71), events (R43), and assembler lines (R78). -/

namespace Sys2Proof

/-- The three access sizes (20_memory.md R53, 30_encoding.md R72). -/
inductive AccessSize where
  | bits8
  | bits16
  | bits32
deriving DecidableEq, Repr

/-- The nine registers of the window (20_memory.md R51). -/
inductive Reg where
  | cr1
  | cr2
  | sr
  | dr
  | crcpr
  | rxcrcr
  | txcrcr
  | i2scfgr
  | i2spr
deriving DecidableEq, Repr

/-- A request as a bus master issues it (30_encoding.md R70): the request word `q` and the write-data operand `d`,
if one came with it. DESIGN CHOICE (log 12): the 14-bit word is carried in 16 bits and `d` as a natural number, so
that an over-wide word or operand can be written down and is refused (R76). -/
structure Request where
  word : BitVec 16
  data : Option Nat
deriving DecidableEq, Repr

/-- Why a request spells nothing (30_encoding.md R76). Safe: the block serves no such request. -/
inductive Malformed where
  /-- Bits above 13 are set: not a 14-bit word. -/
  | wordTooWide
  /-- `kind = 11`. -/
  | reservedKind
  /-- `size = 11` in a READ or a WRITE. -/
  | reservedSize
  /-- RESET with a nonzero `size` or `off`. -/
  | resetFieldsNonzero
  /-- A WRITE that carries no `d`. -/
  | missingData
  /-- A READ or a RESET that carries a `d`. -/
  | unexpectedData
  /-- A WRITE whose `d` has more bits than `size` allows. -/
  | dataTooWide
deriving DecidableEq, Repr

/-- A decoded request: one constructor per row of spec/opcode_table.json, in the table's order. -/
inductive Instr where
  | rd32Cr1
  | rd32Cr2
  | rd32Sr
  | rd32Dr
  | rd32Crcpr
  | rd32Rxcrcr
  | rd32Txcrcr
  | rd32I2scfgr
  | rd32I2spr
  | wr32Cr1 (d : Word)
  | wr32Cr2 (d : Word)
  | wr32Sr (d : Word)
  | wr32Dr (d : Word)
  | wr32Crcpr (d : Word)
  | wr32Rxcrcr (d : Word)
  | wr32Txcrcr (d : Word)
  | wr32I2scfgr (d : Word)
  | wr32I2spr (d : Word)
  | rd32Unbacked (off : Offset)
  | wr32Unbacked (off : Offset) (d : Word)
  | rd16 (off : Offset)
  | wr16 (off : Offset) (d : Half)
  | rd8Aligned (off : Offset)
  | rd8Misaligned (off : Offset)
  | wr8Aligned (off : Offset) (d : Byte)
  | wr8Misaligned (off : Offset) (d : Byte)
  | reset
deriving DecidableEq, Repr

/-- The response to a served request (R71): data of the access size for a read, an acknowledgement otherwise. -/
inductive Response where
  | data8 (v : Byte)
  | data16 (v : Half)
  | data32 (v : Word)
  | ack
deriving DecidableEq, Repr

/-- The three signal lines (10_state.md R36). -/
inductive Line where
  | irq
  | dmarx
  | dmatx
deriving DecidableEq, Repr

/-- A call on a line (R37). -/
inductive LineOp where
  | assert
  | deassert
deriving DecidableEq, Repr

/-- Severity of a diagnostic (R43). -/
inductive Severity where
  | debug
  | warning
deriving DecidableEq, Repr

/-- The diagnostic kinds with their arguments (R43). A reported value is carried zero-extended to 32 bits beside the
access size (log 14). -/
inductive DiagKind where
  | unhandledRead (off : Offset) (size : AccessSize)
  | unhandledWrite (off : Offset) (size : AccessSize) (value : Word)
  | noSlave (value : Half)
  | masterCleared
  | i2sEnableSet
  | inertWrite (off : Offset) (bits : Word)
deriving DecidableEq, Repr

/-- An event the block emits (R43). -/
inductive Event where
  | lineOp (line : Line) (op : LineOp)
  | xfer (tx rx : Byte)
  | diag (severity : Severity) (kind : DiagKind)
deriving DecidableEq, Repr

/-- The two answers of the slave's exchange (10_state.md R41). -/
inductive SlaveAnswer where
  | byte (rx : Byte)
  | stall
deriving DecidableEq, Repr, Inhabited

/-- The offset operand of an assembler line: a number, or a register name (30_encoding.md R78, R80). -/
inductive OffOperand where
  | number (n : Nat)
  | register (r : Reg)
deriving DecidableEq, Repr

/-- One assembler line as a term (30_encoding.md R78; log 16). -/
inductive AsmLine where
  | rd (size : AccessSize) (off : OffOperand)
  | wr (size : AccessSize) (off : OffOperand) (data : Nat)
  | reset
deriving DecidableEq, Repr

end Sys2Proof
end

