-- ==== Sys2Proof/Machine/RegisterMap.lean ====
section
/-! DEFINITION. The register map of the window (20_memory.md R50, R51). -/

namespace Sys2Proof

/-- The offset of a register (R51; the register names of R80 stand for these). -/
def Reg.offset : Reg → Offset
  | .cr1 => 0x00#10
  | .cr2 => 0x04#10
  | .sr => 0x08#10
  | .dr => 0x0C#10
  | .crcpr => 0x10#10
  | .rxcrcr => 0x14#10
  | .txcrcr => 0x18#10
  | .i2scfgr => 0x1C#10
  | .i2spr => 0x20#10

/-- Every register, in the order of their offsets. -/
def Reg.all : List Reg := [.cr1, .cr2, .sr, .dr, .crcpr, .rxcrcr, .txcrcr, .i2scfgr, .i2spr]

/-- The register behind an offset; `none` at an unbacked offset (R51). -/
def Reg.ofOffset (off : Offset) : Option Reg := Reg.all.find? (fun r => r.offset == off)

/-- The offset is in the set `REGS` of R51. -/
def Offset.backed (off : BitVec 10) : Bool := (Reg.ofOffset off).isSome

/-- The offset is a multiple of 4: `off[1:0] = 00` (R54). -/
def Offset.aligned (off : BitVec 10) : Bool := off.extractLsb' 0 2 == 0#2

/-- The offset a platform address reaches, if it is in the window (R50: "An offset is the access address minus
`P_BASE`, 10 bits wide"); an address outside never reaches the block (R61). -/
def windowOffset (base addr : Nat) : Option Offset :=
  if base ≤ addr ∧ addr < base + 1024 then some (BitVec.ofNat 10 (addr - base)) else none

end Sys2Proof
end

