-- ==== Sys2Proof/WellFormed.lean ====
section
/-! DEFINITION. Which terms of `Instr` are decoded requests: rows 19, 20 and 23 to 26 of 30_encoding.md R75 take only
the offsets that the earlier rows leave them. -/

namespace Sys2Proof

/-- The term is one that a request word can spell (R75). -/
def Instr.wellFormed : Instr → Bool
  | .rd32Cr1 => true
  | .rd32Cr2 => true
  | .rd32Sr => true
  | .rd32Dr => true
  | .rd32Crcpr => true
  | .rd32Rxcrcr => true
  | .rd32Txcrcr => true
  | .rd32I2scfgr => true
  | .rd32I2spr => true
  | .wr32Cr1 _ => true
  | .wr32Cr2 _ => true
  | .wr32Sr _ => true
  | .wr32Dr _ => true
  | .wr32Crcpr _ => true
  | .wr32Rxcrcr _ => true
  | .wr32Txcrcr _ => true
  | .wr32I2scfgr _ => true
  | .wr32I2spr _ => true
  | .rd32Unbacked off => !Offset.backed off
  | .wr32Unbacked off _ => !Offset.backed off
  | .rd16 _ => true
  | .wr16 _ _ => true
  | .rd8Aligned off => Offset.aligned off
  | .rd8Misaligned off => !Offset.aligned off
  | .wr8Aligned off _ => Offset.aligned off
  | .wr8Misaligned off _ => !Offset.aligned off
  | .reset => true

end Sys2Proof
end

