-- ==== Sys2Proof/Decode.lean ====
section
/-! DEFINITION. Request decoding, the encoder, and the assembler lines (30_encoding.md). -/

namespace Sys2Proof

/-! ### Fields of the request word (R70) -/

/-- Bits 13:12 of the request word. -/
def Request.kind (r : Request) : BitVec 2 := r.word.extractLsb' 12 2

/-- Bits 11:10 of the request word. -/
def Request.size (r : Request) : BitVec 2 := r.word.extractLsb' 10 2

/-- Bits 9:0 of the request word. -/
def Request.off (r : Request) : Offset := r.word.extractLsb' 0 10

/-- The size code of an access size (R72). -/
def AccessSize.code : AccessSize → BitVec 2
  | .bits8 => 0b00#2
  | .bits16 => 0b01#2
  | .bits32 => 0b10#2

/-- The width in bits of an access size (R72). -/
def AccessSize.bits : AccessSize → Nat
  | .bits8 => 8
  | .bits16 => 16
  | .bits32 => 32

/-- The access size a size code names; `11` is reserved (R72, R76). -/
def AccessSize.ofCode (c : BitVec 2) : Option AccessSize :=
  [AccessSize.bits8, .bits16, .bits32].find? (fun z => z.code == c)

/-! ### The opcode table (R75) -/

/-- A row of the opcode table: the words it takes and the request it spells from the offset and the operand. -/
structure Row where
  pattern : BitVec 16
  mask : BitVec 16
  make : Offset → Word → Instr

/-- `(q & mask) = match`. -/
def Row.takes (row : Row) (q : BitVec 16) : Bool := q &&& row.mask == row.pattern

/-- Rows 1 to 9: the 32-bit register reads. -/
def rowsRead32 : List Row := [
  ⟨0x0800, 0x3FFF, fun _ _ => .rd32Cr1⟩,
  ⟨0x0804, 0x3FFF, fun _ _ => .rd32Cr2⟩,
  ⟨0x0808, 0x3FFF, fun _ _ => .rd32Sr⟩,
  ⟨0x080C, 0x3FFF, fun _ _ => .rd32Dr⟩,
  ⟨0x0810, 0x3FFF, fun _ _ => .rd32Crcpr⟩,
  ⟨0x0814, 0x3FFF, fun _ _ => .rd32Rxcrcr⟩,
  ⟨0x0818, 0x3FFF, fun _ _ => .rd32Txcrcr⟩,
  ⟨0x081C, 0x3FFF, fun _ _ => .rd32I2scfgr⟩,
  ⟨0x0820, 0x3FFF, fun _ _ => .rd32I2spr⟩]

/-- Rows 10 to 18: the 32-bit register writes. -/
def rowsWrite32 : List Row := [
  ⟨0x1800, 0x3FFF, fun _ d => .wr32Cr1 d⟩,
  ⟨0x1804, 0x3FFF, fun _ d => .wr32Cr2 d⟩,
  ⟨0x1808, 0x3FFF, fun _ d => .wr32Sr d⟩,
  ⟨0x180C, 0x3FFF, fun _ d => .wr32Dr d⟩,
  ⟨0x1810, 0x3FFF, fun _ d => .wr32Crcpr d⟩,
  ⟨0x1814, 0x3FFF, fun _ d => .wr32Rxcrcr d⟩,
  ⟨0x1818, 0x3FFF, fun _ d => .wr32Txcrcr d⟩,
  ⟨0x181C, 0x3FFF, fun _ d => .wr32I2scfgr d⟩,
  ⟨0x1820, 0x3FFF, fun _ d => .wr32I2spr d⟩]

/-- Rows 19 to 27: unbacked 32-bit accesses, narrow accesses, reset. -/
def rowsOther : List Row := [
  ⟨0x0800, 0x3C00, fun off _ => .rd32Unbacked off⟩,
  ⟨0x1800, 0x3C00, fun off d => .wr32Unbacked off d⟩,
  ⟨0x0400, 0x3C00, fun off _ => .rd16 off⟩,
  ⟨0x1400, 0x3C00, fun off d => .wr16 off (d.setWidth 16)⟩,
  ⟨0x0000, 0x3C03, fun off _ => .rd8Aligned off⟩,
  ⟨0x0000, 0x3C00, fun off _ => .rd8Misaligned off⟩,
  ⟨0x1000, 0x3C03, fun off d => .wr8Aligned off (d.setWidth 8)⟩,
  ⟨0x1000, 0x3C00, fun off d => .wr8Misaligned off (d.setWidth 8)⟩,
  ⟨0x2000, 0x3FFF, fun _ _ => .reset⟩]

/-- The opcode table, in its order. -/
def rows : List Row := rowsRead32 ++ rowsWrite32 ++ rowsOther

/-! ### The decoder -/

/-- Why a word that no row takes is refused (R76). -/
def whyRefused (r : Request) : Malformed :=
  if r.kind = 0b11#2 then .reservedKind
  else if r.kind = 0b10#2 then .resetFieldsNonzero
  else .reservedSize

/-- The operand of a request whose word some row takes, zero-extended to 32 bits; 0 where there is none.
`d` is present exactly for a WRITE (R70), and fits in the access size (R76). -/
def operand (r : Request) : Except Malformed Word :=
  if r.kind = 0b01#2 then
    match r.data, AccessSize.ofCode r.size with
    | none, _ => .error .missingData
    | some _, none => .error .reservedSize
    | some d, some z => if d < 2 ^ z.bits then .ok (BitVec.ofNat 32 d) else .error .dataTooWide
  else
    match r.data with
    | none => .ok 0#32
    | some _ => .error .unexpectedData

/-- Decoding (R75, R76): the first row that takes the word spells the request; anything else is refused by name. -/
def decode (r : Request) : Except Malformed Instr :=
  if 2 ^ 14 ≤ r.word.toNat then .error .wordTooWide
  else
    match rows.find? (fun row => row.takes r.word) with
    | none => .error (whyRefused r)
    | some row =>
      match operand r with
      | .error e => .error e
      | .ok d => .ok (row.make r.off d)

/-! ### The encoder -/

/-- A READ request word: `kind = 00` (R70, R71). -/
def readRequest (z : AccessSize) (off : Offset) : Request :=
  { word := (0b00#2 ++ 0b00#2 ++ z.code ++ off : BitVec 16), data := none }

/-- A WRITE request: `kind = 01`, with its operand (R70, R71). -/
def writeRequest (z : AccessSize) (off : Offset) (d : Nat) : Request :=
  { word := (0b00#2 ++ 0b01#2 ++ z.code ++ off : BitVec 16), data := some d }

/-- The RESET request: `kind = 10`, everything else 0 (R71 to R73). -/
def resetRequest : Request :=
  { word := (0b00#2 ++ 0b10#2 ++ 0b00#2 ++ 0#10 : BitVec 16), data := none }

/-- The request a well-formed instruction is issued as. -/
def encode : Instr → Request
  | .rd32Cr1 => readRequest .bits32 Reg.cr1.offset
  | .rd32Cr2 => readRequest .bits32 Reg.cr2.offset
  | .rd32Sr => readRequest .bits32 Reg.sr.offset
  | .rd32Dr => readRequest .bits32 Reg.dr.offset
  | .rd32Crcpr => readRequest .bits32 Reg.crcpr.offset
  | .rd32Rxcrcr => readRequest .bits32 Reg.rxcrcr.offset
  | .rd32Txcrcr => readRequest .bits32 Reg.txcrcr.offset
  | .rd32I2scfgr => readRequest .bits32 Reg.i2scfgr.offset
  | .rd32I2spr => readRequest .bits32 Reg.i2spr.offset
  | .wr32Cr1 d => writeRequest .bits32 Reg.cr1.offset d.toNat
  | .wr32Cr2 d => writeRequest .bits32 Reg.cr2.offset d.toNat
  | .wr32Sr d => writeRequest .bits32 Reg.sr.offset d.toNat
  | .wr32Dr d => writeRequest .bits32 Reg.dr.offset d.toNat
  | .wr32Crcpr d => writeRequest .bits32 Reg.crcpr.offset d.toNat
  | .wr32Rxcrcr d => writeRequest .bits32 Reg.rxcrcr.offset d.toNat
  | .wr32Txcrcr d => writeRequest .bits32 Reg.txcrcr.offset d.toNat
  | .wr32I2scfgr d => writeRequest .bits32 Reg.i2scfgr.offset d.toNat
  | .wr32I2spr d => writeRequest .bits32 Reg.i2spr.offset d.toNat
  | .rd32Unbacked off => readRequest .bits32 off
  | .wr32Unbacked off d => writeRequest .bits32 off d.toNat
  | .rd16 off => readRequest .bits16 off
  | .wr16 off d => writeRequest .bits16 off d.toNat
  | .rd8Aligned off => readRequest .bits8 off
  | .rd8Misaligned off => readRequest .bits8 off
  | .wr8Aligned off d => writeRequest .bits8 off d.toNat
  | .wr8Misaligned off d => writeRequest .bits8 off d.toNat
  | .reset => resetRequest

/-! ### Requests numbered as the opcode table numbers their bits -/

/-- The request whose bits are `w`, bit 0 the least significant bit of the request word: the word in bits 15:0, the
operand from bit 16 up (log 12). A WRITE with no operand bits has the operand 0. -/
def Request.ofBits (nbits w : Nat) : Request :=
  let all := w % 2 ^ nbits
  let word := BitVec.ofNat 16 all
  let above := all / 2 ^ 16
  if word.extractLsb' 12 2 = 0b01#2 then { word := word, data := some above }
  else { word := word, data := if above = 0 then none else some above }

/-- The instruction the decoder reads from a word numbered as spec/opcode_table.json numbers it. -/
def decodeTableWord (nbits w : Nat) : Option Instr :=
  match decode (Request.ofBits nbits w) with
  | .ok i => some i
  | .error _ => none

/-! ### Assembler lines (R78 to R80) -/

/-- The offset an operand stands for; above 0x3FF it is refused (R79, R80). -/
def OffOperand.resolve : OffOperand → Option Offset
  | .number n => if n ≤ 0x3FF then some (BitVec.ofNat 10 n) else none
  | .register r => some r.offset

/-- The request an assembler line is encoded as. A value that does not fit in the access size is refused, not truncated
(R79). -/
def AsmLine.assemble : AsmLine → Option Request
  | .rd z off =>
    match off.resolve with
    | some o => some (readRequest z o)
    | none => none
  | .wr z off d =>
    match off.resolve with
    | some o => if d < 2 ^ z.bits then some (writeRequest z o d) else none
    | none => none
  | .reset => some resetRequest

end Sys2Proof
end

