-- ==== Sys2Proof/Config.lean ====
section
/-! DEFINITION. What one instance of the block fixes (00_scope.md R5, R6) and the model's one free value, the slave's
exchange oracle (10_state.md R41). -/

namespace Sys2Proof

/-- Whether a downstream device is attached, for the whole run (R5 `P_SLAVE`, R40). -/
inductive SlavePort where
  | absent
  | present
deriving DecidableEq, Repr

/-- The parameters of R5. They ride in State, where no step changes them, so that a statement over all states is a
statement over all parameters (log 3). No rule reads the last three (log 17). -/
structure Params where
  /-- `P_CAP`: receive FIFO capacity. -/
  cap : Nat
  /-- `P_SLAVE`. -/
  slave : SlavePort
  /-- `P_RV_SR_TAG`: SR bits 8:2. -/
  rvSrTag : BitVec 7
  /-- `P_RV_CRCPR`. -/
  rvCrcpr : Word
  /-- `P_RV_RXCRCR`: the permanent value of RXCRCR. -/
  rvRxcrcr : Word
  /-- `P_RV_TXCRCR`: the permanent value of TXCRCR. -/
  rvTxcrcr : Word
  /-- `P_RV_I2SCFGR`. -/
  rvI2scfgr : Word
  /-- `P_RV_I2SPR`. -/
  rvI2spr : Word
  /-- `P_MASK_CRCPR`: the stored bits of CRCPR. -/
  maskCrcpr : Word
  /-- `P_MASK_I2SCFGR`: the stored bits of I2SCFGR. -/
  maskI2scfgr : Word
  /-- `P_MASK_I2SPR`: the stored bits of I2SPR. -/
  maskI2spr : Word
  /-- `P_BASE`: platform address of the window. -/
  base : Nat
  /-- `P_IRQ_ROUTE`: where IRQ is wired. -/
  irqRoute : Nat
  /-- `P_DMA_ROUTE`: where DMARX and DMATX are wired. -/
  dmaRoute : Nat × Nat
deriving DecidableEq, Repr

/-- The constraints of R6. -/
abbrev Params.Valid (p : Params) : Prop :=
  1 ≤ p.cap ∧
  p.rvCrcpr &&& ~~~p.maskCrcpr = 0#32 ∧
  p.rvI2scfgr &&& ~~~p.maskI2scfgr = 0#32 ∧
  p.rvI2spr &&& ~~~p.maskI2spr = 0#32 ∧
  p.maskI2scfgr.getLsbD 10 = false ∧
  p.rvI2scfgr.getLsbD 10 = false

/-- The simulation defaults of R5 (93_implementation_defined.md I17). DESIGN CHOICE (log 4): the spec gives no default
for `P_SLAVE`; this instance has no slave. -/
def Params.simulationDefault : Params where
  cap := 4
  slave := .absent
  rvSrTag := 0
  rvCrcpr := 0
  rvRxcrcr := 0
  rvTxcrcr := 0
  rvI2scfgr := 0
  rvI2spr := 0
  maskCrcpr := 0x0000FFFF
  maskI2scfgr := 0x0000FBFF
  maskI2spr := 0x0000FFFF
  base := 0
  irqRoute := 0
  dmaRoute := (0, 0)

/-- `P_XCHG`, the exchange oracle (R41): a FREE VALUE with no body. It may depend on the number of the draw, on every
event so far, and on the byte sent; nothing says what it answers (log 7). -/
opaque Config.exchange (draw : Nat) (history : List Event) (tx : Byte) : SlaveAnswer

end Sys2Proof
end

