-- ==== Sys2Proof/Machine/State.lean ====
section
/-! DEFINITION. The state of the block (10_state.md R20, R46), its stops, and the state at construction. -/

namespace Sys2Proof.Machine

/-- The stored fields of CR1 (R22). -/
structure Cr1 where
  cpha : Bool
  cpol : Bool
  mstr : Bool
  br : BitVec 3
  spe : Bool
  lsbfirst : Bool
  ssi : Bool
  ssm : Bool
  rxonly : Bool
  dff : Bool
  crcnext : Bool
  crcen : Bool
  bidioe : Bool
  bidimode : Bool
deriving DecidableEq, Repr

/-- The stored fields of CR2 (R24). -/
structure Cr2 where
  rxdmaen : Bool
  txdmaen : Bool
  ssoe : Bool
  frf : Bool
  errie : Bool
  rxneie : Bool
  txeie : Bool
  vrf : BitVec 5
deriving DecidableEq, Repr

/-- The levels of the three signal lines (R36): `true` is asserted. -/
structure Levels where
  irq : Bool
  dmarx : Bool
  dmatx : Bool
deriving DecidableEq, Repr

/-- The guard (R42). -/
inductive Guard where
  | free
  | heldForever
deriving DecidableEq, Repr

/-- The state of the block (R20), its parameters (R5; log 3), and the model's own fields (logs 1, 6, 7). -/
structure State where
  /-- The parameters; no step changes them. -/
  params : Params
  cr1 : Cr1
  cr2 : Cr2
  crcpr : Word
  i2scfgr : Word
  i2spr : Word
  /-- The receive FIFO, oldest byte first (R32). -/
  fifo : List Byte
  levels : Levels
  guard : Guard
  /-- Everything the block emitted, oldest first (R43). -/
  events : List Event
  /-- Model's own: requests issued and not yet served, in arrival order (R59). -/
  pending : List Request
  /-- Model's own: the responses given, oldest first (R9). -/
  responses : List Response
  /-- Model's own: the answers the slave gives to the next exchanges. -/
  slaveScript : List SlaveAnswer
  /-- Model's own: how many answers were drawn from the free oracle `Config.exchange`. -/
  slaveDraws : Nat
deriving DecidableEq, Repr

/-- The block raises no fault (60_exceptions.md R150); this one is the absence of a step. -/
inductive Fault where
  /-- Raised by every request once the guard is held forever (R42, R181): the block is stuck. Safe. -/
  | stuck
deriving DecidableEq, Repr

/-- What lies outside the block's domain. -/
inductive Refusal where
  /-- Raised by an arm of `exec` whose instruction has no meaning yet. Safe. -/
  | notModelled (mnemonic : String)
  /-- Raised by every request when the parameters break R6 ("A configuration that breaks one is refused"). Safe. -/
  | badConfiguration
  /-- Raised by the step when the next pending request spells nothing (R76). Safe. -/
  | malformedRequest (reason : Malformed)
  /-- Raised by the step when no request is pending: the run has ended (R183; log 2). Safe. -/
  | noRequest
deriving DecidableEq, Repr

/-- CR1 after reset (R46). -/
def Cr1.zero : Cr1 where
  cpha := false
  cpol := false
  mstr := false
  br := 0
  spe := false
  lsbfirst := false
  ssi := false
  ssm := false
  rxonly := false
  dff := false
  crcnext := false
  crcen := false
  bidioe := false
  bidimode := false

/-- CR2 after reset (R46). -/
def Cr2.zero : Cr2 where
  rxdmaen := false
  txdmaen := false
  ssoe := false
  frf := false
  errie := false
  rxneie := false
  txeie := false
  vrf := 0

/-- All three lines deasserted (R36). -/
def Levels.low : Levels := { irq := false, dmarx := false, dmatx := false }

/-- The block right after construction with the given parameters (R46, R171). -/
def State.construct (p : Params) : State where
  params := p
  cr1 := Cr1.zero
  cr2 := Cr2.zero
  crcpr := p.rvCrcpr
  i2scfgr := p.rvI2scfgr
  i2spr := p.rvI2spr
  fifo := []
  levels := Levels.low
  guard := .free
  events := []
  pending := []
  responses := []
  slaveScript := []
  slaveDraws := 0

/-- The machine right after reset: the block at construction, with the simulation defaults of R5 (logs 4, 11). -/
def State.reset : State := State.construct Params.simulationDefault

end Sys2Proof.Machine
end

