-- ==== Sys2Proof/Machine/Operands.lean ====
section
/-! DEFINITION. Register words and fields (10_state.md R22, R24), narrow operands and results (20_memory.md R55, R56),
and the masks of tagged bits (43_register_operations.md R138). -/

namespace Sys2Proof.Machine

/-- The CR1 fields a write of `v` stores (43_register_operations.md R121); bits 31:16 are ignored. -/
def Cr1.ofWord (v : Word) : Cr1 where
  cpha := v.getLsbD 0
  cpol := v.getLsbD 1
  mstr := v.getLsbD 2
  br := v.extractLsb' 3 3
  spe := v.getLsbD 6
  lsbfirst := v.getLsbD 7
  ssi := v.getLsbD 8
  ssm := v.getLsbD 9
  rxonly := v.getLsbD 10
  dff := v.getLsbD 11
  crcnext := v.getLsbD 12
  crcen := v.getLsbD 13
  bidioe := v.getLsbD 14
  bidimode := v.getLsbD 15

/-- `CR1_image` (R22): `zext_32` of the fields, most significant first. -/
def Cr1.image (c : Cr1) : Word :=
  (BitVec.ofBool c.bidimode ++ BitVec.ofBool c.bidioe ++ BitVec.ofBool c.crcen ++ BitVec.ofBool c.crcnext
    ++ BitVec.ofBool c.dff ++ BitVec.ofBool c.rxonly ++ BitVec.ofBool c.ssm ++ BitVec.ofBool c.ssi
    ++ BitVec.ofBool c.lsbfirst ++ BitVec.ofBool c.spe ++ c.br ++ BitVec.ofBool c.mstr ++ BitVec.ofBool c.cpol
    ++ BitVec.ofBool c.cpha).setWidth 32

/-- The CR2 fields a write of `v` stores (R125); bit 3 and bits 31:13 are ignored. -/
def Cr2.ofWord (v : Word) : Cr2 where
  rxdmaen := v.getLsbD 0
  txdmaen := v.getLsbD 1
  ssoe := v.getLsbD 2
  frf := v.getLsbD 4
  errie := v.getLsbD 5
  rxneie := v.getLsbD 6
  txeie := v.getLsbD 7
  vrf := v.extractLsb' 8 5

/-- `CR2_image` (R24): `zext_32` of the fields, most significant first. -/
def Cr2.image (c : Cr2) : Word :=
  (c.vrf ++ BitVec.ofBool c.txeie ++ BitVec.ofBool c.rxneie ++ BitVec.ofBool c.errie ++ BitVec.ofBool c.frf
    ++ 0#1 ++ BitVec.ofBool c.ssoe ++ BitVec.ofBool c.txdmaen ++ BitVec.ofBool c.rxdmaen).setWidth 32

/-- The 32-bit value an 8-bit write is delegated as (R56, R92). -/
def widen8 (d : Byte) : Word := d.setWidth 32

/-- The 32-bit value a 16-bit write is delegated as (R56, R95). -/
def widen16 (d : Half) : Word := d.setWidth 32

/-- The part of a 32-bit read that an 8-bit read returns (R90). -/
def low8 (v : Word) : Byte := v.extractLsb' 0 8

/-- The part of a 32-bit read that a 16-bit read returns (R94), and the DR field of a written value (R101). -/
def low16 (v : Word) : Half := v.extractLsb' 0 16

/-- `TM`: the tagged bits of each register (R138); CR2 and DR have none. -/
def tagged : Reg → Word
  | .cr1 => 0x0000FC00#32
  | .cr2 => 0#32
  | .sr => 0x000001FC#32
  | .dr => 0#32
  | .crcpr => 0xFFFFFFFF#32
  | .rxcrcr => 0xFFFFFFFF#32
  | .txcrcr => 0xFFFFFFFF#32
  | .i2scfgr => 0xFFFFFBFF#32
  | .i2spr => 0xFFFFFFFF#32

end Sys2Proof.Machine
end

