-- ==== Sys2Proof/Machine/Flags.lean ====
section
/-! DEFINITION. The computed flags and conditions: SR.RXNE and SR.TXE (10_state.md R25, R44) and the interrupt
condition (42_line_reconciliation.md R110, R112). -/

namespace Sys2Proof.Machine

/-- SR.RXNE: 1 exactly when the FIFO holds at least one byte, `occ > 0` (R44). -/
def State.rxne (s : State) : Bool := !s.fifo.isEmpty

/-- SR.TXE: always 1 (R44). -/
def txe : Bool := true

/-- `SR_image` (R25): `zext_32({P_RV_SR_TAG, TXE, RXNE})`. -/
def State.srImage (s : State) : Word :=
  (s.params.rvSrTag ++ BitVec.ofBool txe ++ BitVec.ofBool s.rxne).setWidth 32

/-- The condition Reconcile drives IRQ with: `TXEIE | (RXNE & RXNEIE)` (R112). -/
def State.irqCondition (s : State) : Bool := s.cr2.txeie || (s.rxne && s.cr2.rxneie)

end Sys2Proof.Machine
end

