-- ==== Sys2Proof/Machine/Ops.lean ====
section
/-! DEFINITION. The shared operations of 00_scope.md R8: events, lines, FIFO, exchange, reconciliation, the inert
diagnostic, the response, and serving a request under the guard. -/

namespace Sys2Proof.Machine

/-! ### Events and lines (10_state.md R37, R38, R43) -/

/-- Append an event. -/
def State.emit (e : Event) (s : State) : State := { s with events := s.events ++ [e] }

/-- `Diag(sev, kind)` (R43). -/
def State.diag (sev : Severity) (k : DiagKind) (s : State) : State := s.emit (.diag sev k)

/-- The level of a line. -/
def Levels.get (l : Levels) : Line → Bool
  | .irq => l.irq
  | .dmarx => l.dmarx
  | .dmatx => l.dmatx

/-- The levels with one line set. -/
def Levels.set (l : Levels) (b : Bool) : Line → Levels
  | .irq => { l with irq := b }
  | .dmarx => { l with dmarx := b }
  | .dmatx => { l with dmatx := b }

/-- Set the level of a line, with no event. -/
def State.setLevel (line : Line) (b : Bool) (s : State) : State := { s with levels := s.levels.set b line }

/-- `LineAssert(L)`: one event even when the level does not change (R37). -/
def State.lineAssert (line : Line) (s : State) : State := (s.setLevel line true).emit (.lineOp line .assert)

/-- `LineDeassert(L)`: one event even when the level does not change (R37). -/
def State.lineDeassert (line : Line) (s : State) : State := (s.setLevel line false).emit (.lineOp line .deassert)

/-- `LinePulse(L)`: assert, then deassert (R38). -/
def State.linePulse (line : Line) (s : State) : State := (s.lineAssert line).lineDeassert line

/-! ### The receive FIFO (R33 to R35) -/

/-- The FIFO after one more byte: the oldest is evicted when it is full (R33). -/
def fifoPush (cap : Nat) (fifo : List Byte) (b : Byte) : List Byte :=
  (if fifo.length = cap then fifo.drop 1 else fifo) ++ [b]

/-- `Enqueue(b)` (R33). -/
def State.enqueue (b : Byte) (s : State) : State := { s with fifo := fifoPush s.params.cap s.fifo b }

/-- `Dequeue()` (R34). -/
def State.dequeue (s : State) : Option Byte × State :=
  match s.fifo with
  | [] => (none, s)
  | b :: rest => (some b, { s with fifo := rest })

/-- `Clear()` (R35). -/
def State.clearFifo (s : State) : State := { s with fifo := [] }

/-! ### The attached slave (R41) -/

/-- The slave's answer to `Exchange(tx)`: the next answer of the script, else a free draw from the oracle (log 7). -/
def State.slaveAnswer (tx : Byte) (s : State) : SlaveAnswer :=
  match s.slaveScript with
  | a :: _ => a
  | [] => Config.exchange s.slaveDraws s.events tx

/-- The state once that answer has been taken. -/
def State.takeAnswer (s : State) : State :=
  match s.slaveScript with
  | _ :: rest => { s with slaveScript := rest }
  | [] => { s with slaveDraws := s.slaveDraws + 1 }

/-- The guard after a stalled exchange (R41, R42). -/
def State.holdForever (s : State) : State := { s with guard := .heldForever }

/-! ### Line reconciliation (42_line_reconciliation.md R110) -/

/-- The DMATX half of `Reconcile` (R111). -/
def State.reconcileDmatx (s : State) : State :=
  if s.cr2.txdmaen then
    if s.levels.dmatx then s else (s.lineDeassert .dmatx).lineAssert .dmatx
  else s.lineDeassert .dmatx

/-- The IRQ half of `Reconcile` (R112). -/
def State.reconcileIrq (s : State) : State :=
  if s.irqCondition then s.lineAssert .irq else s.lineDeassert .irq

/-- `Reconcile()`: DMATX, then IRQ (R110). -/
def State.reconcile (s : State) : State := s.reconcileDmatx.reconcileIrq

/-! ### The inert-write diagnostic (43_register_operations.md R138) -/

/-- `InertDiag(off, v)`. -/
def State.inertDiag (r : Reg) (v : Word) (s : State) : State :=
  if v &&& tagged r = 0#32 then s else s.diag .debug (.inertWrite r.offset (v &&& tagged r))

/-! ### Serving a request -/

/-- Give a response (R71). -/
def State.respond (r : Response) (s : State) : State := { s with responses := s.responses ++ [r] }

/-- Acknowledge a write, unless its exchange stalled: then the request gets no response (R42, R103). -/
def State.acknowledge (s : State) : State :=
  match s.guard with
  | .free => s.respond .ack
  | .heldForever => s

/-- One request, from taking the guard to releasing it (R42). A configuration that breaks R6 is refused; a block whose
guard is held forever has no step. -/
def serve (s : State) (handler : State → State) : Host.Outcome State Fault Refusal :=
  if s.params.Valid then
    match s.guard with
    | .free => .next (handler s)
    | .heldForever => .fault .stuck
  else .refused .badConfiguration

/-- A read request: the handler's value becomes the response (R71). -/
def serveRead (s : State) (handler : State → Word × State) (width : Word → Response) :
    Host.Outcome State Fault Refusal :=
  serve s (fun u => (handler u).2.respond (width (handler u).1))

/-- A write request: acknowledged when the handler completes (R71). -/
def serveWrite (s : State) (handler : State → State) : Host.Outcome State Fault Refusal :=
  serve s (fun u => (handler u).acknowledge)

end Sys2Proof.Machine
end

