-- ==== Sys2Proof/Machine/DataPath.lean ====
section
/-! DEFINITION. The data path controller: reads and writes of DR (41_data_path.md R100 to R107). -/

namespace Sys2Proof.Machine

/-- The data-register read path (R100). -/
def readDr (s : State) : Word × State :=
  let s := s.lineDeassert .irq
  match s.dequeue with
  | (some b, s) => (b.setWidth 32, s.reconcile)
  | (none, s) => (0#32, s)

/-- `NoSlaveWrite(h)` (R102). -/
def noSlaveWrite (h : Half) (s : State) : State :=
  (s.diag .warning (.noSlave h)).enqueue 0x00#8

/-- Steps 3c to 3e of `SlaveWrite` (R103), once the exchange of `tx` has returned `rx`. -/
def slaveReturned (tx rx : Byte) (s : State) : State :=
  let s := (s.emit (.xfer tx rx)).enqueue rx
  let s := if s.cr2.rxdmaen then s.linePulse .dmarx else s
  s.reconcile

/-- `SlaveWrite(h)` (R103): only `h[7:0]` is sent (R104); a stall leaves the rest undone (R42). -/
def slaveWrite (h : Half) (s : State) : State :=
  let tx : Byte := h.extractLsb' 0 8
  let s := s.lineDeassert .dmatx
  match s.slaveAnswer tx with
  | .byte rx => slaveReturned tx rx s.takeAnswer
  | .stall => s.takeAnswer.holdForever

/-- The data-register write path (R101). -/
def writeDr (v : Word) (s : State) : State :=
  let s := s.lineDeassert .irq
  match s.params.slave with
  | .absent => noSlaveWrite (low16 v) s
  | .present => slaveWrite (low16 v) s

/-- RD32.DR (R100). -/
def execRd32Dr (s : State) : Host.Outcome State Fault Refusal := serveRead s readDr .data32

/-- WR32.DR (R101). -/
def execWr32Dr (d : Word) (s : State) : Host.Outcome State Fault Refusal := serveWrite s (writeDr d)

end Sys2Proof.Machine
end

