-- ==== Sys2Proof/Machine/Registers.lean ====
section
/-! DEFINITION. The 32-bit reads and writes of every register but DR (43_register_operations.md R120 to R139). -/

namespace Sys2Proof.Machine

/-! ### CR1 -/

/-- CR1 read (R120). -/
def readCr1 (s : State) : Word × State := (s.cr1.image, s)

/-- The master-mode guard (R123): every write with bit 2 clear warns. -/
def warnMasterCleared (v : Word) (s : State) : State :=
  if v.getLsbD 2 then s else s.diag .warning .masterCleared

/-- The deassert on a 1-to-0 change of SPE (R122). -/
def deassertOnSpeClear (oldSpe : Bool) (v : Word) (s : State) : State :=
  if oldSpe && !v.getLsbD 6 then s.lineDeassert .irq else s

/-- CR1 write (R121). -/
def writeCr1 (v : Word) (s : State) : State :=
  let oldSpe := s.cr1.spe
  let s := { s with cr1 := Cr1.ofWord v }
  ((warnMasterCleared v s |> deassertOnSpeClear oldSpe v).inertDiag .cr1 v)

/-- RD32.CR1 (R120). -/
def execRd32Cr1 (s : State) : Host.Outcome State Fault Refusal := serveRead s readCr1 .data32

/-- WR32.CR1 (R121). -/
def execWr32Cr1 (d : Word) (s : State) : Host.Outcome State Fault Refusal := serveWrite s (writeCr1 d)

/-! ### CR2 -/

/-- CR2 read (R124). -/
def readCr2 (s : State) : Word × State := (s.cr2.image, s)

/-- CR2 write (R125): Reconcile runs on every one. -/
def writeCr2 (v : Word) (s : State) : State := State.reconcile { s with cr2 := Cr2.ofWord v }

/-- RD32.CR2 (R124). -/
def execRd32Cr2 (s : State) : Host.Outcome State Fault Refusal := serveRead s readCr2 .data32

/-- WR32.CR2 (R125). -/
def execWr32Cr2 (d : Word) (s : State) : Host.Outcome State Fault Refusal := serveWrite s (writeCr2 d)

/-! ### SR -/

/-- SR read (R126). -/
def readSr (s : State) : Word × State := (s.srImage, s)

/-- SR write (R127): nothing is stored. -/
def writeSr (v : Word) (s : State) : State := s.inertDiag .sr v

/-- RD32.SR (R126). -/
def execRd32Sr (s : State) : Host.Outcome State Fault Refusal := serveRead s readSr .data32

/-- WR32.SR (R127). -/
def execWr32Sr (d : Word) (s : State) : Host.Outcome State Fault Refusal := serveWrite s (writeSr d)

/-! ### CRC registers -/

/-- CRCPR read (R128). -/
def readCrcpr (s : State) : Word × State := (s.crcpr, s)

/-- CRCPR write (R129). -/
def writeCrcpr (v : Word) (s : State) : State :=
  State.inertDiag .crcpr v { s with crcpr := v &&& s.params.maskCrcpr }

/-- RXCRCR read (R130). -/
def readRxcrcr (s : State) : Word × State := (s.params.rvRxcrcr, s)

/-- RXCRCR write (R131): nothing is stored. -/
def writeRxcrcr (v : Word) (s : State) : State := s.inertDiag .rxcrcr v

/-- TXCRCR read (R132). -/
def readTxcrcr (s : State) : Word × State := (s.params.rvTxcrcr, s)

/-- TXCRCR write (R133): nothing is stored. -/
def writeTxcrcr (v : Word) (s : State) : State := s.inertDiag .txcrcr v

/-- RD32.CRCPR (R128). -/
def execRd32Crcpr (s : State) : Host.Outcome State Fault Refusal := serveRead s readCrcpr .data32

/-- WR32.CRCPR (R129). -/
def execWr32Crcpr (d : Word) (s : State) : Host.Outcome State Fault Refusal := serveWrite s (writeCrcpr d)

/-- RD32.RXCRCR (R130). -/
def execRd32Rxcrcr (s : State) : Host.Outcome State Fault Refusal := serveRead s readRxcrcr .data32

/-- WR32.RXCRCR (R131). -/
def execWr32Rxcrcr (d : Word) (s : State) : Host.Outcome State Fault Refusal := serveWrite s (writeRxcrcr d)

/-- RD32.TXCRCR (R132). -/
def execRd32Txcrcr (s : State) : Host.Outcome State Fault Refusal := serveRead s readTxcrcr .data32

/-- WR32.TXCRCR (R133). -/
def execWr32Txcrcr (d : Word) (s : State) : Host.Outcome State Fault Refusal := serveWrite s (writeTxcrcr d)

/-! ### I2S registers -/

/-- I2SCFGR read (R134). -/
def readI2scfgr (s : State) : Word × State := (s.i2scfgr, s)

/-- The I2S-enable guard (R135): writing 1 to bit 10 warns. -/
def warnI2sEnable (v : Word) (s : State) : State :=
  if v.getLsbD 10 then s.diag .warning .i2sEnableSet else s

/-- I2SCFGR write (R135): bit 10 is never in the mask (00_scope.md R6). -/
def writeI2scfgr (v : Word) (s : State) : State :=
  (warnI2sEnable v { s with i2scfgr := v &&& s.params.maskI2scfgr }).inertDiag .i2scfgr v

/-- I2SPR read (R136). -/
def readI2spr (s : State) : Word × State := (s.i2spr, s)

/-- I2SPR write (R137). -/
def writeI2spr (v : Word) (s : State) : State :=
  State.inertDiag .i2spr v { s with i2spr := v &&& s.params.maskI2spr }

/-- RD32.I2SCFGR (R134). -/
def execRd32I2scfgr (s : State) : Host.Outcome State Fault Refusal := serveRead s readI2scfgr .data32

/-- WR32.I2SCFGR (R135). -/
def execWr32I2scfgr (d : Word) (s : State) : Host.Outcome State Fault Refusal := serveWrite s (writeI2scfgr d)

/-- RD32.I2SPR (R136). -/
def execRd32I2spr (s : State) : Host.Outcome State Fault Refusal := serveRead s readI2spr .data32

/-- WR32.I2SPR (R137). -/
def execWr32I2spr (d : Word) (s : State) : Host.Outcome State Fault Refusal := serveWrite s (writeI2spr d)

end Sys2Proof.Machine
end

