-- ==== Sys2Proof/Machine/BusDispatch.lean ====
section
/-! DEFINITION. The 32-bit dispatch and the accesses that go through it or miss every register
(40_bus_dispatch.md R90 to R99). -/

namespace Sys2Proof.Machine

/-- A read that reaches no register: 0, with a diagnostic (R91, R96). -/
def unhandledRead (off : Offset) (z : AccessSize) (s : State) : Word × State :=
  (0#32, s.diag .warning (.unhandledRead off z))

/-- A write that reaches no register: a diagnostic only (R93, R97). -/
def unhandledWrite (off : Offset) (z : AccessSize) (v : Word) (s : State) : State :=
  s.diag .warning (.unhandledWrite off z v)

/-- `DWRead(off)` (R98). -/
def dwRead (off : Offset) (s : State) : Word × State :=
  match Reg.ofOffset off with
  | some .cr1 => readCr1 s
  | some .cr2 => readCr2 s
  | some .sr => readSr s
  | some .dr => readDr s
  | some .crcpr => readCrcpr s
  | some .rxcrcr => readRxcrcr s
  | some .txcrcr => readTxcrcr s
  | some .i2scfgr => readI2scfgr s
  | some .i2spr => readI2spr s
  | none => unhandledRead off .bits32 s

/-- `DWWrite(off, v)` (R98). -/
def dwWrite (off : Offset) (v : Word) (s : State) : State :=
  match Reg.ofOffset off with
  | some .cr1 => writeCr1 v s
  | some .cr2 => writeCr2 v s
  | some .sr => writeSr v s
  | some .dr => writeDr v s
  | some .crcpr => writeCrcpr v s
  | some .rxcrcr => writeRxcrcr v s
  | some .txcrcr => writeTxcrcr v s
  | some .i2scfgr => writeI2scfgr v s
  | some .i2spr => writeI2spr v s
  | none => unhandledWrite off .bits32 v s

/-- RD32.UNBACKED (R96). -/
def execRd32Unbacked (off : Offset) (s : State) : Host.Outcome State Fault Refusal :=
  serveRead s (unhandledRead off .bits32) .data32

/-- WR32.UNBACKED (R97). -/
def execWr32Unbacked (off : Offset) (d : Word) (s : State) : Host.Outcome State Fault Refusal :=
  serveWrite s (unhandledWrite off .bits32 d)

/-- RD16 (R94): delegated, with no alignment check. -/
def execRd16 (off : Offset) (s : State) : Host.Outcome State Fault Refusal :=
  serveRead s (dwRead off) (fun v => .data16 (low16 v))

/-- WR16 (R95): delegated zero-extended, with no alignment check. -/
def execWr16 (off : Offset) (d : Half) (s : State) : Host.Outcome State Fault Refusal :=
  serveWrite s (dwWrite off (widen16 d))

/-- RD8.ALIGNED (R90). -/
def execRd8Aligned (off : Offset) (s : State) : Host.Outcome State Fault Refusal :=
  serveRead s (dwRead off) (fun v => .data8 (low8 v))

/-- RD8.MISALIGNED (R91). -/
def execRd8Misaligned (off : Offset) (s : State) : Host.Outcome State Fault Refusal :=
  serveRead s (unhandledRead off .bits8) (fun v => .data8 (low8 v))

/-- WR8.ALIGNED (R92): delegated zero-extended. -/
def execWr8Aligned (off : Offset) (d : Byte) (s : State) : Host.Outcome State Fault Refusal :=
  serveWrite s (dwWrite off (widen8 d))

/-- WR8.MISALIGNED (R93). -/
def execWr8Misaligned (off : Offset) (d : Byte) (s : State) : Host.Outcome State Fault Refusal :=
  serveWrite s (unhandledWrite off .bits8 (widen8 d))

end Sys2Proof.Machine
end

