-- ==== Sys2Proof/Machine/Reset.lean ====
section
/-! DEFINITION. RESET (70_reset_and_hazards.md R170). -/

namespace Sys2Proof.Machine

/-- Every stored field back to its construction-time value (R170, 10_state.md R46). -/
def State.restoreFields (s : State) : State :=
  { s with
    cr1 := Cr1.zero
    cr2 := Cr2.zero
    crcpr := s.params.rvCrcpr
    i2scfgr := s.params.rvI2scfgr
    i2spr := s.params.rvI2spr }

/-- The reset operation: lines, FIFO, fields (R170). The event list, the guard and the slave are not touched. -/
def resetBlock (s : State) : State :=
  (((s.lineDeassert .irq).lineDeassert .dmarx).lineDeassert .dmatx).clearFifo.restoreFields

/-- RESET (R170). -/
def execReset (s : State) : Host.Outcome State Fault Refusal := serveWrite s resetBlock

end Sys2Proof.Machine
end

