-- ==== Sys2Proof/Machine/Dispatch.lean ====
section
/-! DEFINITION. One arm per request of spec/opcode_table.json. -/

namespace Sys2Proof.Machine

/-- What serving a decoded request does. -/
def exec (i : Instr) (s : State) : Host.Outcome State Fault Refusal :=
  match i with
  | .rd32Cr1 => Sys2Proof.Machine.execRd32Cr1 s
  | .rd32Cr2 => Sys2Proof.Machine.execRd32Cr2 s
  | .rd32Sr => Sys2Proof.Machine.execRd32Sr s
  | .rd32Dr => Sys2Proof.Machine.execRd32Dr s
  | .rd32Crcpr => Sys2Proof.Machine.execRd32Crcpr s
  | .rd32Rxcrcr => Sys2Proof.Machine.execRd32Rxcrcr s
  | .rd32Txcrcr => Sys2Proof.Machine.execRd32Txcrcr s
  | .rd32I2scfgr => Sys2Proof.Machine.execRd32I2scfgr s
  | .rd32I2spr => Sys2Proof.Machine.execRd32I2spr s
  | .wr32Cr1 d => Sys2Proof.Machine.execWr32Cr1 d s
  | .wr32Cr2 d => Sys2Proof.Machine.execWr32Cr2 d s
  | .wr32Sr d => Sys2Proof.Machine.execWr32Sr d s
  | .wr32Dr d => Sys2Proof.Machine.execWr32Dr d s
  | .wr32Crcpr d => Sys2Proof.Machine.execWr32Crcpr d s
  | .wr32Rxcrcr d => Sys2Proof.Machine.execWr32Rxcrcr d s
  | .wr32Txcrcr d => Sys2Proof.Machine.execWr32Txcrcr d s
  | .wr32I2scfgr d => Sys2Proof.Machine.execWr32I2scfgr d s
  | .wr32I2spr d => Sys2Proof.Machine.execWr32I2spr d s
  | .rd32Unbacked off => Sys2Proof.Machine.execRd32Unbacked off s
  | .wr32Unbacked off d => Sys2Proof.Machine.execWr32Unbacked off d s
  | .rd16 off => Sys2Proof.Machine.execRd16 off s
  | .wr16 off d => Sys2Proof.Machine.execWr16 off d s
  | .rd8Aligned off => Sys2Proof.Machine.execRd8Aligned off s
  | .rd8Misaligned off => Sys2Proof.Machine.execRd8Misaligned off s
  | .wr8Aligned off d => Sys2Proof.Machine.execWr8Aligned off d s
  | .wr8Misaligned off d => Sys2Proof.Machine.execWr8Misaligned off d s
  | .reset => Sys2Proof.Machine.execReset s

end Sys2Proof.Machine
end

