-- ==== Sys2Proof/Machine/Step.lean ====
section
/-! DEFINITION. One step: the block serves the next pending request (00_scope.md R4, 20_memory.md R59). -/

namespace Sys2Proof.Machine

/-- The state once the next pending request has been taken from the masters. -/
def State.withPending (rs : List Request) (s : State) : State := { s with pending := rs }

/-- Serve the oldest pending request. One that spells nothing is refused (R76); with none pending the run has ended
(R183; log 2). -/
def step (s : State) : Host.Outcome State Fault Refusal :=
  match s.pending with
  | [] => .refused .noRequest
  | r :: rest =>
    match decode r with
    | .error e => .refused (.malformedRequest e)
    | .ok i => exec i (s.withPending rest)

/-- The state in which a master has issued the request with these bits, next in line to be served (log 1). -/
def State.withFetchWord (s : State) (nbits w : Nat) : State := s.withPending (Request.ofBits nbits w :: s.pending)

end Sys2Proof.Machine
end

