-- ==== Sys2Proof/Machine/Observe.lean ====
section
/-! DEFINITION. What can be observed of a run (00_scope.md R9, 10_state.md R37, 70_reset_and_hazards.md R183), and which
register a request reaches (40_bus_dispatch.md R98). -/

namespace Sys2Proof.Machine

/-! ### Events -/

/-- The edges among line calls (R37): the calls whose op differs from the level of the line just before. -/
def edges (l : Levels) : List Event → List (Line × LineOp)
  | [] => []
  | .lineOp line op :: rest =>
    let b := decide (op = .assert)
    if l.get line = b then edges l rest else (line, op) :: edges (l.set b line) rest
  | .xfer _ _ :: rest => edges l rest
  | .diag _ _ :: rest => edges l rest

/-- The levels a list of events leaves, starting from given levels (R37). -/
def levelsAfter (l : Levels) : List Event → Levels
  | [] => l
  | .lineOp line op :: rest => levelsAfter (l.set (decide (op = .assert)) line) rest
  | .xfer _ _ :: rest => levelsAfter l rest
  | .diag _ _ :: rest => levelsAfter l rest

/-- The event is a diagnostic, which R9 lets an observer drop. -/
def Event.isDiag : Event → Bool
  | .lineOp _ _ => false
  | .xfer _ _ => false
  | .diag _ _ => true

/-- The events functional correctness is judged on: `LineOp` and `Xfer` (R9). -/
def functionalEvents (es : List Event) : List Event := es.filter (fun e => !Event.isDiag e)

/-! ### Which register a request reaches -/

/-- The register a 32-bit read dispatch reaches for this request, if any. -/
def readTarget : Instr → Option Reg
  | .rd32Cr1 => some .cr1
  | .rd32Cr2 => some .cr2
  | .rd32Sr => some .sr
  | .rd32Dr => some .dr
  | .rd32Crcpr => some .crcpr
  | .rd32Rxcrcr => some .rxcrcr
  | .rd32Txcrcr => some .txcrcr
  | .rd32I2scfgr => some .i2scfgr
  | .rd32I2spr => some .i2spr
  | .wr32Cr1 _ => none
  | .wr32Cr2 _ => none
  | .wr32Sr _ => none
  | .wr32Dr _ => none
  | .wr32Crcpr _ => none
  | .wr32Rxcrcr _ => none
  | .wr32Txcrcr _ => none
  | .wr32I2scfgr _ => none
  | .wr32I2spr _ => none
  | .rd32Unbacked _ => none
  | .wr32Unbacked _ _ => none
  | .rd16 off => Reg.ofOffset off
  | .wr16 _ _ => none
  | .rd8Aligned off => Reg.ofOffset off
  | .rd8Misaligned _ => none
  | .wr8Aligned _ _ => none
  | .wr8Misaligned _ _ => none
  | .reset => none

/-- The register a 32-bit write dispatch reaches for this request, if any. -/
def writeTarget : Instr → Option Reg
  | .rd32Cr1 => none
  | .rd32Cr2 => none
  | .rd32Sr => none
  | .rd32Dr => none
  | .rd32Crcpr => none
  | .rd32Rxcrcr => none
  | .rd32Txcrcr => none
  | .rd32I2scfgr => none
  | .rd32I2spr => none
  | .wr32Cr1 _ => some .cr1
  | .wr32Cr2 _ => some .cr2
  | .wr32Sr _ => some .sr
  | .wr32Dr _ => some .dr
  | .wr32Crcpr _ => some .crcpr
  | .wr32Rxcrcr _ => some .rxcrcr
  | .wr32Txcrcr _ => some .txcrcr
  | .wr32I2scfgr _ => some .i2scfgr
  | .wr32I2spr _ => some .i2spr
  | .rd32Unbacked _ => none
  | .wr32Unbacked _ _ => none
  | .rd16 _ => none
  | .wr16 off _ => Reg.ofOffset off
  | .rd8Aligned _ => none
  | .rd8Misaligned _ => none
  | .wr8Aligned off _ => Reg.ofOffset off
  | .wr8Misaligned _ _ => none
  | .reset => none

/-- The 32-bit read of an offset (rows 1 to 9 and 19 of 30_encoding.md R75). -/
def wideRead (off : Offset) : Instr :=
  match Reg.ofOffset off with
  | some .cr1 => .rd32Cr1
  | some .cr2 => .rd32Cr2
  | some .sr => .rd32Sr
  | some .dr => .rd32Dr
  | some .crcpr => .rd32Crcpr
  | some .rxcrcr => .rd32Rxcrcr
  | some .txcrcr => .rd32Txcrcr
  | some .i2scfgr => .rd32I2scfgr
  | some .i2spr => .rd32I2spr
  | none => .rd32Unbacked off

/-- The 32-bit write of a value at an offset (rows 10 to 18 and 20 of R75). -/
def wideWrite (off : Offset) (v : Word) : Instr :=
  match Reg.ofOffset off with
  | some .cr1 => .wr32Cr1 v
  | some .cr2 => .wr32Cr2 v
  | some .sr => .wr32Sr v
  | some .dr => .wr32Dr v
  | some .crcpr => .wr32Crcpr v
  | some .rxcrcr => .wr32Rxcrcr v
  | some .txcrcr => .wr32Txcrcr v
  | some .i2scfgr => .wr32I2scfgr v
  | some .i2spr => .wr32I2spr v
  | none => .wr32Unbacked off v

/-- The requests that run Reconcile when they complete (42_line_reconciliation.md R113): a DR read that dequeues, a DR
write with a slave, a CR2 write. -/
def reconciles (i : Instr) (s : State) : Prop :=
  (readTarget i = some .dr ∧ s.fifo ≠ []) ∨
  (writeTarget i = some .dr ∧ s.params.slave = .present) ∨
  writeTarget i = some .cr2

/-! ### Runs -/

/-- Serve decoded requests one after the other, stopping at the first stop (R59, R183). -/
def serveAll : List Instr → State → Host.Outcome State Fault Refusal
  | [], s => .next s
  | i :: rest, s =>
    match exec i s with
    | .next t => serveAll rest t
    | .fault f => .fault f
    | .refused r => .refused r

/-- The final observation of a run (R183): the responses, the events and the final state of R20; a stuck run has none.
The model's own fields are not part of it. -/
def State.observation (s : State) : Option (List Response × List Event × State) :=
  match s.guard with
  | .free =>
    some (s.responses, s.events,
      { s with pending := [], responses := [], slaveScript := [], slaveDraws := 0 })
  | .heldForever => none

end Sys2Proof.Machine
end

