-- ==== Sys2Proof/Safety.lean ====
section
/-! DEFINITION. What claims assume of a state and what every run keeps. -/

namespace Sys2Proof.Machine

/-- A state in which the block serves requests: the parameters satisfy 00_scope.md R6 and the guard is free
(10_state.md R42). -/
abbrev State.Ready (s : State) : Prop := s.params.Valid ∧ s.guard = .free

/-- What every step keeps. -/
structure State.Inv (s : State) : Prop where
  /-- The parameters satisfy R6. -/
  params : s.params.Valid
  /-- The FIFO never holds more than its capacity (R32). -/
  fifo : s.fifo.length ≤ s.params.cap
  /-- The stored bits of CRCPR lie within the mask (R27). -/
  crcpr : s.crcpr &&& ~~~s.params.maskCrcpr = 0#32
  /-- The stored bits of I2SCFGR lie within the mask (R30). -/
  i2scfgr : s.i2scfgr &&& ~~~s.params.maskI2scfgr = 0#32
  /-- The stored bits of I2SPR lie within the mask (R31). -/
  i2spr : s.i2spr &&& ~~~s.params.maskI2spr = 0#32
  /-- I2SE reads 0 (R30). -/
  i2se : s.i2scfgr.getLsbD 10 = false
  /-- DMARX is never left asserted (R114). -/
  dmarx : s.levels.dmarx = false
  /-- DMATX follows TXDMAEN in a block that is not stuck (R118). -/
  dmatx : s.guard = .free → s.levels.dmatx = s.cr2.txdmaen
  /-- The levels are those the recorded line calls leave (R37, R39). -/
  trace : levelsAfter Levels.low s.events = s.levels

end Sys2Proof.Machine
end

