-- ==== Sys2Proof/Certificates/Slice0/Obligations.lean ====
section
/-! DEFINITION. The statements for the provers. "Spec decision D<n>" names a row of spec/92_eei_decisions.md, which the
spec marks as its own choice; "log <n>" names notes/assumptions/<n>.md. -/

open Sys2Proof Sys2Proof.Machine

/-! ### Encoding (30_encoding.md; the request word is spec decision D1) -/

/-- 95_test_vectors.md section 2.1: every word it lists decodes to the row it names, or is refused (a WRITE word, with an
operand of this statement's choosing); and the example of R78, `WR32 CR2, 0x43`. The encoding is spec decision D1. -/
def Obligations.TabledWordsDecode : Prop :=
  decodeTableWord 16 0x0000 = some (.rd8Aligned 0x000#10) ∧
  decodeTableWord 16 0x0001 = some (.rd8Misaligned 0x001#10) ∧
  decodeTableWord 16 0x000C = some (.rd8Aligned 0x00C#10) ∧
  decodeTableWord 16 0x03FC = some (.rd8Aligned 0x3FC#10) ∧
  decodeTableWord 16 0x03FF = some (.rd8Misaligned 0x3FF#10) ∧
  decodeTableWord 16 0x0403 = some (.rd16 0x003#10) ∧
  decodeTableWord 16 0x0800 = some .rd32Cr1 ∧
  decodeTableWord 16 0x0803 = some (.rd32Unbacked 0x003#10) ∧
  decodeTableWord 16 0x080C = some .rd32Dr ∧
  decodeTableWord 16 0x0820 = some .rd32I2spr ∧
  decodeTableWord 16 0x0824 = some (.rd32Unbacked 0x024#10) ∧
  decodeTableWord 16 0x0BFF = some (.rd32Unbacked 0x3FF#10) ∧
  decodeTableWord 24 0x4C1000 = some (.wr8Aligned 0x000#10 0x4C#8) ∧
  decodeTableWord 24 0xFF13FF = some (.wr8Misaligned 0x3FF#10 0xFF#8) ∧
  decodeTableWord 32 0x1234140C = some (.wr16 0x00C#10 0x1234#16) ∧
  decodeTableWord 48 0x0000010A1820 = some (.wr32I2spr 0x10A#32) ∧
  decodeTableWord 48 0x800000011BFF = some (.wr32Unbacked 0x3FF#10 0x80000001#32) ∧
  decodeTableWord 16 0x2000 = some .reset ∧
  decode { word := 0x0C00, data := none } = .error .reservedSize ∧
  decode { word := 0x1C0C, data := some 0 } = .error .reservedSize ∧
  decode { word := 0x2001, data := none } = .error .resetFieldsNonzero ∧
  decode { word := 0x2400, data := none } = .error .resetFieldsNonzero ∧
  decode { word := 0x3000, data := none } = .error .reservedKind ∧
  decode { word := 0x3FFF, data := none } = .error .reservedKind ∧
  decode { word := 0x100C, data := some 0x100 } = .error .dataTooWide ∧
  decodeTableWord 48 0x000000431804 = some (.wr32Cr2 0x43#32)

/-- Every well-formed request, with every offset and operand its encoding admits, decodes from the request it is encoded
as. -/
def Obligations.DecodeEncodeRoundTrip : Prop :=
  ∀ i : Instr, i.wellFormed = true → decode (encode i) = .ok i

/-- A request that decodes is well formed and is the only request that spells its instruction. -/
def Obligations.DecodedRequestReencodes : Prop :=
  ∀ (r : Request) (i : Instr), decode r = .ok i → i.wellFormed = true ∧ encode i = r

/-- Which requests decode (30_encoding.md, spec decision D1). Everything else is refused; that a WRITE without an operand,
and a READ or a RESET with one, are among the refused is the model's inference (log 13). -/
def Obligations.DecoderAcceptsServedRequestsOnly : Prop :=
  ∀ r : Request,
    (∃ i, decode r = .ok i) ↔
      (r.word.toNat < 2 ^ 14 ∧
        ((r.kind = 0b00#2 ∧ r.size ≠ 0b11#2 ∧ r.data = none) ∨
         (r.kind = 0b01#2 ∧ ∃ d, r.data = some d ∧
            ((r.size = 0b00#2 ∧ d < 2 ^ 8) ∨ (r.size = 0b01#2 ∧ d < 2 ^ 16) ∨ (r.size = 0b10#2 ∧ d < 2 ^ 32))) ∨
         (r.kind = 0b10#2 ∧ r.size = 0b00#2 ∧ r.off = 0#10 ∧ r.data = none)))

/-- R78 to R80 (spec decision D2, log 16): an assembled line is a request that decodes; an offset above 0x3FF and an
operand that does not fit are refused; every other line is the READ, the WRITE with its operand, or the RESET that it
names; a register name stands for its offset. -/
def Obligations.AssembledLinesDecode : Prop :=
  (∀ (line : AsmLine) (r : Request), line.assemble = some r → ∃ i, decode r = .ok i) ∧
  (∀ (z : AccessSize) (n d : Nat), 0x3FF < n →
    (AsmLine.rd z (.number n)).assemble = none ∧ (AsmLine.wr z (.number n) d).assemble = none) ∧
  (∀ (z : AccessSize) (off : OffOperand) (d : Nat), 2 ^ z.bits ≤ d → (AsmLine.wr z off d).assemble = none) ∧
  (∀ (z : AccessSize) (n : Nat), n ≤ 0x3FF →
    (AsmLine.rd z (.number n)).assemble = some (readRequest z (BitVec.ofNat 10 n))) ∧
  (∀ (z : AccessSize) (n d : Nat), n ≤ 0x3FF → d < 2 ^ z.bits →
    (AsmLine.wr z (.number n) d).assemble = some (writeRequest z (BitVec.ofNat 10 n) d)) ∧
  AsmLine.reset.assemble = some resetRequest ∧
  (OffOperand.register .cr1).resolve = some 0x00#10 ∧
  (OffOperand.register .cr2).resolve = some 0x04#10 ∧
  (OffOperand.register .sr).resolve = some 0x08#10 ∧
  (OffOperand.register .dr).resolve = some 0x0C#10 ∧
  (OffOperand.register .crcpr).resolve = some 0x10#10 ∧
  (OffOperand.register .rxcrcr).resolve = some 0x14#10 ∧
  (OffOperand.register .txcrcr).resolve = some 0x18#10 ∧
  (OffOperand.register .i2scfgr).resolve = some 0x1C#10 ∧
  (OffOperand.register .i2spr).resolve = some 0x20#10

/-- R50, R61: the platform addresses that reach the window, and the offset each reaches. -/
def Obligations.WindowOffsets : Prop :=
  ∀ base addr : Nat,
    (addr < base → windowOffset base addr = none) ∧
    (base + 0x3FF < addr → windowOffset base addr = none) ∧
    (base ≤ addr → addr ≤ base + 0x3FF → ∃ off, windowOffset base addr = some off ∧ base + off.toNat = addr)

/-! ### Steps and runs -/

/-- A step serves the oldest pending request: it runs the decoded request on the state with that request taken. A request
that spells nothing is refused (R76); with none pending there is no step (R183, log 2). -/
def Obligations.StepRunsDecodedRequest : Prop :=
  (∀ (s : State) (r : Request) (rest : List Request) (i : Instr),
    s.pending = r :: rest → decode r = .ok i → step s = exec i { s with pending := rest }) ∧
  (∀ (s : State) (r : Request) (rest : List Request) (e : Malformed),
    s.pending = r :: rest → decode r = .error e → step s = .refused (.malformedRequest e)) ∧
  (∀ s : State, s.pending = [] → step s = .refused .noRequest) ∧
  (∀ (s : State) (nbits w : Nat) (i : Instr),
    decodeTableWord nbits w = some i → step (s.withFetchWord nbits w) = exec i s)

/-- R59, R183: running the machine on a list of pending requests serves exactly those requests, one step each, in arrival
order. -/
def Obligations.RunServesRequestsInArrivalOrder : Prop :=
  ∀ (is : List Instr) (s : State), (∀ i ∈ is, i.wellFormed = true) → s.pending = [] →
    Host.Core.run Sys2Proof.core is.length { s with pending := is.map encode } = serveAll is s

/-- R6: a configuration that breaks a constraint is refused (the constraints are spec decisions D5, D6, D20). That every
request is refused, whatever the guard is, is the model's choice (log 10). -/
def Obligations.BadConfigurationIsRefused : Prop :=
  ∀ (i : Instr) (s : State),
    (s.params.cap = 0 ∨
     s.params.rvCrcpr &&& ~~~s.params.maskCrcpr ≠ 0#32 ∨
     s.params.rvI2scfgr &&& ~~~s.params.maskI2scfgr ≠ 0#32 ∨
     s.params.rvI2spr &&& ~~~s.params.maskI2spr ≠ 0#32 ∨
     s.params.maskI2scfgr.getLsbD 10 = true ∨
     s.params.rvI2scfgr.getLsbD 10 = true) →
    exec i s = .refused .badConfiguration

/-- R42, R181: once the guard is held forever no request has a step, RESET included. -/
def Obligations.StuckBlockServesNothing : Prop :=
  ∀ s : State, s.params.Valid → s.guard = .heldForever →
    (∀ i : Instr, exec i s = .fault .stuck) ∧ (∀ t : State, step s ≠ .next t) ∧ s.observation = none

/-- R150, R71: every request of a ready block completes, with a response of its kind and size, unless it is a DR write
whose exchange stalls; then the guard is held forever and no response is given. That the stalled request still answers a
next state, the one the block is left in, is the model's inference (log 9). -/
def Obligations.EveryRequestIsAnswered : Prop :=
  ∀ (i : Instr) (s : State), s.Ready →
    ∃ t, exec i s = .next t ∧
      ((t.guard = .free ∧ ∃ r, t.responses = s.responses ++ [r] ∧
          ((encode i).kind = 0b00#2 ∧ (encode i).size = 0b00#2 → ∃ v, r = .data8 v) ∧
          ((encode i).kind = 0b00#2 ∧ (encode i).size = 0b01#2 → ∃ v, r = .data16 v) ∧
          ((encode i).kind = 0b00#2 ∧ (encode i).size = 0b10#2 → ∃ v, r = .data32 v) ∧
          ((encode i).kind ≠ 0b00#2 → r = .ack)) ∨
       (t.guard = .heldForever ∧ writeTarget i = some .dr ∧ s.params.slave = .present ∧ t.responses = s.responses))

/-- R5, R43, R170: no request changes a parameter or removes an event, RESET included; and none touches the requests
that still wait. -/
def Obligations.RequestsKeepParametersAndHistory : Prop :=
  ∀ (i : Instr) (s t : State), exec i s = .next t →
    t.params = s.params ∧ t.pending = s.pending ∧ (∃ es, t.events = s.events ++ es) ∧
      (∃ rs, t.responses = s.responses ++ rs)

/-! ### Bus dispatch (40_bus_dispatch.md) -/

/-- R90: an aligned 8-bit read is the 32-bit read at its offset with all its side effects, and returns bits 7:0. -/
def Obligations.AlignedByteReadDelegates : Prop :=
  ∀ (s : State) (off : Offset), s.Ready → off.extractLsb' 0 2 = 0#2 →
    ∃ (t : State) (v : Word),
      exec (wideRead off) s = .next { t with responses := s.responses ++ [.data32 v] } ∧
      exec (.rd8Aligned off) s = .next { t with responses := s.responses ++ [.data8 (v.extractLsb' 0 8)] }

/-- R94 (spec decision D10): a 16-bit read at any offset is the 32-bit read there, with no alignment check, and returns
bits 15:0. -/
def Obligations.HalfReadDelegates : Prop :=
  ∀ (s : State) (off : Offset), s.Ready →
    ∃ (t : State) (v : Word),
      exec (wideRead off) s = .next { t with responses := s.responses ++ [.data32 v] } ∧
      exec (.rd16 off) s = .next { t with responses := s.responses ++ [.data16 (v.extractLsb' 0 16)] }

/-- R92, R95, R56 (spec decisions D9, D10): an aligned 8-bit write and any 16-bit write are the 32-bit write of the
zero-extended operand. -/
def Obligations.NarrowWritesDelegateZeroExtended : Prop :=
  ∀ (s : State) (off : Offset), s.Ready →
    (∀ d : Byte, off.extractLsb' 0 2 = 0#2 →
      ∃ t, exec (wideWrite off (0#24 ++ d)) s = .next t ∧ exec (.wr8Aligned off d) s = .next t) ∧
    (∀ d : Half, ∃ t, exec (wideWrite off (0#16 ++ d)) s = .next t ∧ exec (.wr16 off d) s = .next t)

/-- R91: a misaligned 8-bit read returns 0 with one diagnostic and changes nothing else. The severity Warning is spec
decision D17 (log 21). -/
def Obligations.MisalignedByteReadOnlyWarns : Prop :=
  ∀ (s : State) (off : Offset), s.Ready → off.extractLsb' 0 2 ≠ 0#2 →
    exec (.rd8Misaligned off) s = .next
      { s with
        events := s.events ++ [.diag .warning (.unhandledRead off .bits8)]
        responses := s.responses ++ [.data8 0#8] }

/-- R93: a misaligned 8-bit write emits one diagnostic and changes nothing else. The severity Warning is spec decision D17
(log 21); that the value is carried zero-extended to 32 bits is the model's choice (log 14). -/
def Obligations.MisalignedByteWriteOnlyWarns : Prop :=
  ∀ (s : State) (off : Offset) (d : Byte), s.Ready → off.extractLsb' 0 2 ≠ 0#2 →
    exec (.wr8Misaligned off d) s = .next
      { s with
        events := s.events ++ [.diag .warning (.unhandledWrite off .bits8 (0#24 ++ d))]
        responses := s.responses ++ [.ack] }

/-- R96: a 32-bit read at an offset behind which there is no register returns 0 with one diagnostic and changes nothing
else. The severity Warning is spec decision D17 (log 21). -/
def Obligations.UnbackedReadOnlyWarns : Prop :=
  ∀ (s : State) (off : Offset), s.Ready →
    off ∉ [0x00#10, 0x04#10, 0x08#10, 0x0C#10, 0x10#10, 0x14#10, 0x18#10, 0x1C#10, 0x20#10] →
    exec (.rd32Unbacked off) s = .next
      { s with
        events := s.events ++ [.diag .warning (.unhandledRead off .bits32)]
        responses := s.responses ++ [.data32 0#32] }

/-- R97: a 32-bit write at an offset behind which there is no register emits one diagnostic and changes nothing else. The
severity Warning is spec decision D17 (log 21); the form the value is carried in is the model's choice (log 14). -/
def Obligations.UnbackedWriteOnlyWarns : Prop :=
  ∀ (s : State) (off : Offset) (d : Word), s.Ready →
    off ∉ [0x00#10, 0x04#10, 0x08#10, 0x0C#10, 0x10#10, 0x14#10, 0x18#10, 0x1C#10, 0x20#10] →
    exec (.wr32Unbacked off d) s = .next
      { s with
        events := s.events ++ [.diag .warning (.unhandledWrite off .bits32 d)]
        responses := s.responses ++ [.ack] }

/-- R54, R180: no access of any width at 0x0D, 0x0E or 0x0F dequeues, transmits or moves a line; each emits one
diagnostic, a read returns 0. The severity Warning is spec decision D17 (log 21). -/
def Obligations.AccessesInsideDrTransferNothing : Prop :=
  ∀ (s : State) (off : Offset), s.Ready → 0x0D#10 ≤ off → off ≤ 0x0F#10 →
    (∀ (i : Instr) (r : Response),
      (i, r) ∈ [(Instr.rd8Misaligned off, Response.data8 0#8), (.rd16 off, .data16 0#16), (.rd32Unbacked off, .data32 0#32)] →
      ∃ k, exec i s = .next
        { s with events := s.events ++ [.diag .warning k], responses := s.responses ++ [r] }) ∧
    (∀ (d8 : Byte) (d16 : Half) (d32 : Word),
      ∀ i ∈ [Instr.wr8Misaligned off d8, .wr16 off d16, .wr32Unbacked off d32],
      ∃ k, exec i s = .next
        { s with events := s.events ++ [.diag .warning k], responses := s.responses ++ [.ack] })

/-! ### Data path (41_data_path.md) -/

/-- R100: a DR read deasserts IRQ; with the FIFO empty it returns 0 and does nothing more; otherwise it takes the oldest
byte, runs Reconcile and returns the byte zero-extended. That a Deassert is recorded over a low IRQ is spec decision D11
(log 20), that nothing gates the read D21 (log 22). -/
def Obligations.DataReadTakesOldestByte : Prop :=
  ∀ s : State, s.Ready →
    (s.fifo = [] →
      exec .rd32Dr s = .next
        { s with
          levels := { s.levels with irq := false }
          events := s.events ++ [.lineOp .irq .deassert]
          responses := s.responses ++ [.data32 0#32] }) ∧
    (∀ (b : Byte) (rest : List Byte), s.fifo = b :: rest →
      exec .rd32Dr s = .next
        (State.respond (.data32 (0#24 ++ b))
          (State.reconcile
            { s with
              levels := { s.levels with irq := false }
              events := s.events ++ [.lineOp .irq .deassert]
              fifo := rest })))

/-- R102, with step 1 of R101: a DR write with no slave deasserts IRQ, warns, enqueues 0x00 with the oldest byte evicted
when the FIFO is full, and does nothing more. That a Deassert is recorded over a low IRQ is spec decision D11 (log 20),
that nothing gates the write D21 (log 22). -/
def Obligations.DataWriteWithoutSlaveEnqueuesZero : Prop :=
  ∀ (s : State) (v : Word), s.Ready → s.params.slave = .absent →
    exec (.wr32Dr v) s = .next
      { s with
        levels := { s.levels with irq := false }
        events := s.events ++ [.lineOp .irq .deassert, .diag .warning (.noSlave (v.extractLsb' 0 16))]
        fifo := (if s.fifo.length = s.params.cap then s.fifo.drop 1 else s.fifo) ++ [0x00#8]
        responses := s.responses ++ [.ack] }

/-- R103, with step 1 of R101: a DR write with a slave. `u` is the state in which the slave is asked for its answer.
If it answers a byte, the byte is enqueued, DMARX is pulsed when RXDMAEN is set, Reconcile runs, and the lines end as the
rule's corner cases say. If it stalls, the two deasserts stay, the guard is held forever and no response is given; the
model's own record of the slave's answers (log 7) is all else that moves. That the stalled write answers a next state is
the model's inference (log 9); the recorded calls are spec decision D11 (log 20), no gating is D21 (log 22). -/
def Obligations.DataWriteWithSlaveExchanges : Prop :=
  ∀ (s u : State) (v : Word), s.Ready → s.params.slave = .present →
    u = { s with
          levels := { s.levels with irq := false, dmatx := false }
          events := s.events ++ [.lineOp .irq .deassert, .lineOp .dmatx .deassert] } →
    (∀ rx : Byte, u.slaveAnswer (v.extractLsb' 0 8) = .byte rx →
      ∃ t, exec (.wr32Dr v) s = .next t ∧
        t = State.respond .ack
          (State.reconcile
            { u.takeAnswer with
              fifo := (if s.fifo.length = s.params.cap then s.fifo.drop 1 else s.fifo) ++ [rx]
              levels := { u.levels with dmarx := if s.cr2.rxdmaen then false else s.levels.dmarx }
              events := u.events ++ [.xfer (v.extractLsb' 0 8) rx] ++
                (if s.cr2.rxdmaen then [.lineOp .dmarx .assert, .lineOp .dmarx .deassert] else []) }) ∧
        t.levels.dmatx = s.cr2.txdmaen ∧
        t.levels.irq = (s.cr2.txeie || s.cr2.rxneie)) ∧
    (u.slaveAnswer (v.extractLsb' 0 8) = .stall →
      exec (.wr32Dr v) s = .next { u.takeAnswer with guard := .heldForever })

/-- R104: the byte exchanged is `v[7:0]`, nothing else of the value matters, and a DR read is below 0x100. That the two
writes answer the same next state rests on the model's slave, whose answer is a function of the draw, the history and the
byte (log 7), and on the next state of a stalled write (log 9). -/
def Obligations.OnlyTheLowByteIsTransferred : Prop :=
  (∀ (s : State) (v w : Word), s.Ready → s.params.slave = .present → v.extractLsb' 0 8 = w.extractLsb' 0 8 →
    ∃ t, exec (.wr32Dr v) s = .next t ∧ exec (.wr32Dr w) s = .next t ∧
      (t.guard = .free → ∃ rx es, t.events =
        s.events ++ [.lineOp .irq .deassert, .lineOp .dmatx .deassert, .xfer (v.extractLsb' 0 8) rx] ++ es)) ∧
  (∀ s : State, s.Ready →
    ∃ t v, exec .rd32Dr s = .next t ∧ t.responses = s.responses ++ [.data32 v] ∧ v.toNat < 0x100)

/-- R106: a DR read emits no diagnostic, and the only diagnostic a DR write emits is `NoSlave`, of any width. That every
such request answers a next state, a stalled write included, is the model's inference (log 9). -/
def Obligations.DataPathOnlyWarnsOfNoSlave : Prop :=
  ∀ (i : Instr) (s : State), s.Ready → (readTarget i = some .dr ∨ writeTarget i = some .dr) →
    ∃ t es, exec i s = .next t ∧ t.events = s.events ++ es ∧
      ∀ (sev : Severity) (k : DiagKind), .diag sev k ∈ es →
        writeTarget i = some .dr ∧ s.params.slave = .absent ∧ sev = .warning ∧ ∃ h, k = .noSlave h

/-- R107 (derived in the spec from R102 and R33): N DR writes with no slave, from an empty FIFO, leave min(N, P_CAP)
zero bytes. -/
def Obligations.WritesWithoutSlaveFillWithZeros : Prop :=
  ∀ (vs : List Word) (s : State), s.Ready → s.params.slave = .absent → s.fifo = [] →
    ∃ t, serveAll (vs.map Instr.wr32Dr) s = .next t ∧
      t.fifo = List.replicate (min vs.length s.params.cap) 0x00#8

/-- R107 (derived in the spec from R103 and R33): N DR writes from an empty FIFO, to a slave that answers the N bytes
`bs`, leave the last min(N, P_CAP) of them, in order. The answers are the model's own input list (log 7). -/
def Obligations.WritesWithSlaveKeepTheLastBytes : Prop :=
  ∀ (vs : List Word) (bs : List Byte) (later : List SlaveAnswer) (s : State),
    s.Ready → s.params.slave = .present → s.fifo = [] → vs.length = bs.length →
    s.slaveScript = bs.map SlaveAnswer.byte ++ later →
    ∃ t, serveAll (vs.map Instr.wr32Dr) s = .next t ∧
      t.fifo = bs.drop (bs.length - s.params.cap) ∧ t.slaveScript = later ∧ t.guard = .free

/-- R34, R107: as many DR reads as the FIFO holds bytes return those bytes, oldest first, and leave it empty. -/
def Obligations.ReadsReturnBytesInOrder : Prop :=
  ∀ s : State, s.Ready →
    ∃ t, serveAll (List.replicate s.fifo.length Instr.rd32Dr) s = .next t ∧
      t.fifo = [] ∧ t.responses = s.responses ++ s.fifo.map (fun b => Response.data32 (0#24 ++ b))

/-! ### FIFO and lines (10_state.md) -/

/-- R33: Enqueue appends the byte, evicting the oldest one when the FIFO is full, and nothing else changes. -/
def Obligations.EnqueueEvictsTheOldest : Prop :=
  ∀ (s : State) (b : Byte), s.params.Valid → s.fifo.length ≤ s.params.cap →
    s.enqueue b = { s with fifo := (s.enqueue b).fifo } ∧
    (s.fifo.length < s.params.cap → (s.enqueue b).fifo = s.fifo ++ [b]) ∧
    (s.fifo.length = s.params.cap → (s.enqueue b).fifo = s.fifo.tail ++ [b]) ∧
    1 ≤ (s.enqueue b).fifo.length ∧ (s.enqueue b).fifo.length ≤ s.params.cap ∧
    (s.enqueue b).fifo.getLast? = some b

/-- R34: Dequeue takes the oldest byte; on an empty FIFO it changes nothing; a byte enqueued now leaves after every byte
that is there already. -/
def Obligations.DequeueTakesTheOldest : Prop :=
  ∀ s : State,
    (s.fifo = [] → s.dequeue = (none, s)) ∧
    (∀ (b : Byte) (rest : List Byte), s.fifo = b :: rest →
      s.dequeue = (some b, { s with fifo := rest }) ∧
      (∀ later : Byte, s.fifo.length < s.params.cap →
        (s.enqueue later).dequeue = (some b, { s with fifo := rest ++ [later] })))

/-- R38: a pulse appends an Assert and a Deassert, leaves the line at 0, and nothing else changes. -/
def Obligations.PulseAssertsThenDeasserts : Prop :=
  ∀ (s : State) (line : Line),
    s.linePulse line =
      { s with
        levels := (s.linePulse line).levels
        events := s.events ++ [.lineOp line .assert, .lineOp line .deassert] } ∧
    (s.linePulse line).levels.get line = false ∧
    (∀ other : Line, other ≠ line → (s.linePulse line).levels.get other = s.levels.get other)

/-! ### Line reconciliation (42_line_reconciliation.md) -/

/-- R110 to R112 (the order of the two halves is spec decision D13): all that Reconcile does. -/
def Obligations.ReconcileDrivesDmatxAndIrq : Prop :=
  ∀ s : State,
    s.reconcile =
      { s with
        levels :=
          { irq := s.cr2.txeie || (!s.fifo.isEmpty && s.cr2.rxneie)
            dmarx := s.levels.dmarx
            dmatx := s.cr2.txdmaen }
        events := s.events ++
          (if s.cr2.txdmaen = true then
            (if s.levels.dmatx = false then [.lineOp .dmatx .deassert, .lineOp .dmatx .assert] else [])
           else [.lineOp .dmatx .deassert]) ++
          [.lineOp .irq (if (s.cr2.txeie || (!s.fifo.isEmpty && s.cr2.rxneie)) = true
            then .assert else .deassert)] }

/-- R117 (derived in the spec): a second Reconcile changes no level; it emits its IRQ call again, and a DMATX Deassert
when TXDMAEN = 0. -/
def Obligations.ReconcileIsIdempotentOnLevels : Prop :=
  ∀ s : State,
    s.reconcile.reconcile.levels = s.reconcile.levels ∧
    s.reconcile.reconcile.events =
      s.reconcile.events ++ (if s.cr2.txdmaen = true then [] else [.lineOp .dmatx .deassert]) ++
        [.lineOp .irq (if s.reconcile.levels.irq = true then .assert else .deassert)]

/-- R113, R115, R151 (derived in the spec): a completed request that runs Reconcile leaves IRQ and DMATX as the enables
and the FIFO say; any other request asserts no line and raises none. -/
def Obligations.OnlyReconcileAssertsLines : Prop :=
  ∀ (i : Instr) (s t : State), exec i s = .next t → t.guard = .free →
    (reconciles i s →
      t.levels.irq = (t.cr2.txeie || (!t.fifo.isEmpty && t.cr2.rxneie)) ∧
      t.levels.dmatx = t.cr2.txdmaen) ∧
    (¬ reconciles i s →
      (t.levels.irq = true → s.levels.irq = true) ∧
      (t.levels.dmatx = true → s.levels.dmatx = true) ∧
      (t.levels.dmarx = true → s.levels.dmarx = true) ∧
      ∃ es, t.events = s.events ++ es ∧ ∀ line : Line, .lineOp line .assert ∉ es)

/-- R172, R175 (derived in the spec): with the FIFO empty and IRQ low, IRQ stays low through any requests among which
none writes CR2 or DR, whatever TXEIE and RXNEIE are. -/
def Obligations.IrqStaysLowUntilReconcile : Prop :=
  ∀ (is : List Instr) (s : State), s.Ready → s.fifo = [] → s.levels.irq = false →
    (∀ i ∈ is, writeTarget i ≠ some .cr2 ∧ writeTarget i ≠ some .dr) →
    ∃ t, serveAll is s = .next t ∧ t.levels.irq = false ∧ t.fifo = []

/-- R103, R37 (edges are spec decision D11): with TXDMAEN set and DMATX asserted, a completed slave write shows a consumer
of DMATX a falling edge and then a rising edge. -/
def Obligations.SlaveWriteRefreshesDmatx : Prop :=
  ∀ (i : Instr) (s t : State), s.params.slave = .present → s.cr2.txdmaen = true → s.levels.dmatx = true →
    writeTarget i = some .dr → exec i s = .next t → t.guard = .free →
    ∃ es, t.events = s.events ++ es ∧
      (edges s.levels es).filter (fun e => e.1 == .dmatx) = [(.dmatx, .deassert), (.dmatx, .assert)]

/-! ### Control, status and inert registers (43_register_operations.md) -/

/-- R120, R22 (bit positions are spec decision D7, reserved bits D8): a CR1 read returns every field at its bits and
changes nothing. -/
def Obligations.Control1ReadsItsFields : Prop :=
  ∀ s : State, s.Ready →
    ∃ v : Word, exec .rd32Cr1 s = .next { s with responses := s.responses ++ [.data32 v] } ∧
      v.getLsbD 0 = s.cr1.cpha ∧ v.getLsbD 1 = s.cr1.cpol ∧ v.getLsbD 2 = s.cr1.mstr ∧
      v.extractLsb' 3 3 = s.cr1.br ∧ v.getLsbD 6 = s.cr1.spe ∧ v.getLsbD 7 = s.cr1.lsbfirst ∧
      v.getLsbD 8 = s.cr1.ssi ∧ v.getLsbD 9 = s.cr1.ssm ∧ v.getLsbD 10 = s.cr1.rxonly ∧
      v.getLsbD 11 = s.cr1.dff ∧ v.getLsbD 12 = s.cr1.crcnext ∧ v.getLsbD 13 = s.cr1.crcen ∧
      v.getLsbD 14 = s.cr1.bidioe ∧ v.getLsbD 15 = s.cr1.bidimode ∧ v.extractLsb' 16 16 = 0#16

/-- R124: a CR2 read returns every field at its bits, with bit 3 and bits 31:13 reading 0 (spec decision D8, log 5), and
changes nothing. -/
def Obligations.Control2ReadsItsFields : Prop :=
  ∀ s : State, s.Ready →
    ∃ v : Word, exec .rd32Cr2 s = .next { s with responses := s.responses ++ [.data32 v] } ∧
      v.getLsbD 0 = s.cr2.rxdmaen ∧ v.getLsbD 1 = s.cr2.txdmaen ∧ v.getLsbD 2 = s.cr2.ssoe ∧
      v.getLsbD 3 = false ∧ v.getLsbD 4 = s.cr2.frf ∧ v.getLsbD 5 = s.cr2.errie ∧
      v.getLsbD 6 = s.cr2.rxneie ∧ v.getLsbD 7 = s.cr2.txeie ∧ v.extractLsb' 8 5 = s.cr2.vrf ∧
      v.extractLsb' 13 19 = 0#19

/-- R126: an SR read returns RXNE in bit 0, 1 in bit 1, the constant tag bits in 8:2, 0 in bits 31:9 (spec decision D8,
log 5), and changes nothing. -/
def Obligations.StatusReadsComputedFlags : Prop :=
  ∀ s : State, s.Ready →
    ∃ v : Word, exec .rd32Sr s = .next { s with responses := s.responses ++ [.data32 v] } ∧
      (v.getLsbD 0 = true ↔ 0 < s.fifo.length) ∧ v.getLsbD 1 = true ∧
      v.extractLsb' 2 7 = s.params.rvSrTag ∧ v.extractLsb' 9 23 = 0#23

/-- R130, R132: RXCRCR and TXCRCR read their constants and a read changes nothing; no request changes the constants. -/
def Obligations.CrcResultRegistersReadConstants : Prop :=
  (∀ s : State, s.Ready →
    exec .rd32Rxcrcr s = .next { s with responses := s.responses ++ [.data32 s.params.rvRxcrcr] } ∧
    exec .rd32Txcrcr s = .next { s with responses := s.responses ++ [.data32 s.params.rvTxcrcr] }) ∧
  (∀ (i : Instr) (s t : State), exec i s = .next t →
    t.params.rvRxcrcr = s.params.rvRxcrcr ∧ t.params.rvTxcrcr = s.params.rvTxcrcr)

/-- R128, R134, R136: CRCPR, I2SCFGR and I2SPR read their stored values and a read changes nothing. -/
def Obligations.InertRegistersReadStoredValues : Prop :=
  ∀ s : State, s.Ready →
    exec .rd32Crcpr s = .next { s with responses := s.responses ++ [.data32 s.crcpr] } ∧
    exec .rd32I2scfgr s = .next { s with responses := s.responses ++ [.data32 s.i2scfgr] } ∧
    exec .rd32I2spr s = .next { s with responses := s.responses ++ [.data32 s.i2spr] }

/-- R121 to R123, R138 (bit positions D7, SPE D14, order D15, MSTR D16, InertWrite D17 are spec decisions): a CR1 write
stores the fields, warns when bit 2 is 0, deasserts IRQ when SPE goes from 1 to 0, and reports tagged ones; nothing else
changes. -/
def Obligations.Control1WriteStoresAndWarns : Prop :=
  ∀ (s : State) (v : Word), s.Ready →
    exec (.wr32Cr1 v) s = .next
      { s with
        cr1 :=
          { cpha := v.getLsbD 0, cpol := v.getLsbD 1, mstr := v.getLsbD 2, br := v.extractLsb' 3 3
            spe := v.getLsbD 6, lsbfirst := v.getLsbD 7, ssi := v.getLsbD 8, ssm := v.getLsbD 9
            rxonly := v.getLsbD 10, dff := v.getLsbD 11, crcnext := v.getLsbD 12, crcen := v.getLsbD 13
            bidioe := v.getLsbD 14, bidimode := v.getLsbD 15 }
        levels :=
          { s.levels with
            irq := if s.cr1.spe = true ∧ v.getLsbD 6 = false then false else s.levels.irq }
        events := s.events ++
          (if v.getLsbD 2 = false then [.diag .warning .masterCleared] else []) ++
          (if s.cr1.spe = true ∧ v.getLsbD 6 = false then [.lineOp .irq .deassert] else []) ++
          (if v &&& 0x0000FC00#32 ≠ 0#32
            then [.diag .debug (.inertWrite 0x00#10 (v &&& 0x0000FC00#32))] else [])
        responses := s.responses ++ [.ack] }

/-- R125: a CR2 write stores the fields and then runs Reconcile, whatever is written; nothing else changes. -/
def Obligations.Control2WriteStoresAndReconciles : Prop :=
  ∀ (s : State) (v : Word), s.Ready →
    exec (.wr32Cr2 v) s = .next
      (State.respond .ack
        (State.reconcile
          { s with
            cr2 :=
              { rxdmaen := v.getLsbD 0, txdmaen := v.getLsbD 1, ssoe := v.getLsbD 2, frf := v.getLsbD 4
                errie := v.getLsbD 5, rxneie := v.getLsbD 6, txeie := v.getLsbD 7
                vrf := v.extractLsb' 8 5 } }))

/-- R127, R131, R133, R138 (InertWrite is spec decision D17): writes to SR, RXCRCR and TXCRCR store nothing; written
tagged ones are reported. -/
def Obligations.ReadOnlyRegistersIgnoreWrites : Prop :=
  ∀ (s : State) (v : Word), s.Ready →
    exec (.wr32Sr v) s = .next
      { s with
        events := s.events ++
          (if v &&& 0x000001FC#32 ≠ 0#32
            then [.diag .debug (.inertWrite 0x08#10 (v &&& 0x000001FC#32))] else [])
        responses := s.responses ++ [.ack] } ∧
    exec (.wr32Rxcrcr v) s = .next
      { s with
        events := s.events ++ (if v ≠ 0#32 then [.diag .debug (.inertWrite 0x14#10 v)] else [])
        responses := s.responses ++ [.ack] } ∧
    exec (.wr32Txcrcr v) s = .next
      { s with
        events := s.events ++ (if v ≠ 0#32 then [.diag .debug (.inertWrite 0x18#10 v)] else [])
        responses := s.responses ++ [.ack] }

/-- R129, R135, R137, R138 (InertWrite is spec decision D17, its order after the I2S warning D15): writes to CRCPR,
I2SCFGR and I2SPR store the bits within the mask and report written ones; a 1 in I2SCFGR bit 10 warns. -/
def Obligations.InertRegistersStoreWithinTheirMasks : Prop :=
  ∀ (s : State) (v : Word), s.Ready →
    exec (.wr32Crcpr v) s = .next
      { s with
        crcpr := v &&& s.params.maskCrcpr
        events := s.events ++ (if v ≠ 0#32 then [.diag .debug (.inertWrite 0x10#10 v)] else [])
        responses := s.responses ++ [.ack] } ∧
    exec (.wr32I2scfgr v) s = .next
      { s with
        i2scfgr := v &&& s.params.maskI2scfgr
        events := s.events ++
          (if v.getLsbD 10 = true then [.diag .warning .i2sEnableSet] else []) ++
          (if v &&& 0xFFFFFBFF#32 ≠ 0#32
            then [.diag .debug (.inertWrite 0x1C#10 (v &&& 0xFFFFFBFF#32))] else [])
        responses := s.responses ++ [.ack] } ∧
    exec (.wr32I2spr v) s = .next
      { s with
        i2spr := v &&& s.params.maskI2spr
        events := s.events ++ (if v ≠ 0#32 then [.diag .debug (.inertWrite 0x20#10 v)] else [])
        responses := s.responses ++ [.ack] }

/-- R139 (spec decision D8), R27, R30, R31: what a register reads after a 32-bit write of it: the written value within
the bits the register stores; in particular I2SE always reads 0. -/
def Obligations.WrittenRegistersReadBack : Prop :=
  ∀ (s : State) (v : Word), s.Ready →
    (∃ t, serveAll [.wr32Cr1 v, .rd32Cr1] s = .next t ∧
      t.responses = s.responses ++ [.ack, .data32 (v &&& 0x0000FFFF#32)]) ∧
    (∃ t, serveAll [.wr32Cr2 v, .rd32Cr2] s = .next t ∧
      t.responses = s.responses ++ [.ack, .data32 (v &&& 0x00001FF7#32)]) ∧
    (∃ t, serveAll [.wr32Crcpr v, .rd32Crcpr] s = .next t ∧
      t.responses = s.responses ++ [.ack, .data32 (v &&& s.params.maskCrcpr)]) ∧
    (∃ t, serveAll [.wr32I2scfgr v, .rd32I2scfgr] s = .next t ∧
      t.responses = s.responses ++ [.ack, .data32 (v &&& s.params.maskI2scfgr)] ∧
      (v &&& s.params.maskI2scfgr).getLsbD 10 = false) ∧
    (∃ t, serveAll [.wr32I2spr v, .rd32I2spr] s = .next t ∧
      t.responses = s.responses ++ [.ack, .data32 (v &&& s.params.maskI2spr)])

/-- R56, R179 (spec decision D9): an 8-bit write of CR1 or CR2 clears the register bits above the byte. -/
def Obligations.NarrowWritesClearUpperBits : Prop :=
  ∀ (s : State) (d : Byte), s.Ready →
    (∃ t, serveAll [.wr8Aligned 0x00#10 d, .rd32Cr1] s = .next t ∧
      t.responses = s.responses ++ [.ack, .data32 (0#24 ++ d)]) ∧
    (∃ t, serveAll [.wr8Aligned 0x04#10 d, .rd32Cr2] s = .next t ∧
      t.responses = s.responses ++ [.ack, .data32 (0#24 ++ (d &&& 0xF7#8))] ∧ t.cr2.vrf = 0#5)

/-! ### Reset and construction (70_reset_and_hazards.md) -/

/-- R170 (the order of its events is spec decision D30, the CR1 and CR2 reset values D4): RESET deasserts the three lines,
empties the FIFO and restores every register; the guard, the parameters and the slave are untouched, and the events
stay. -/
def Obligations.ResetRestoresConstructionValues : Prop :=
  ∀ s : State, s.Ready →
    exec .reset s = .next
      { State.construct s.params with
        events := s.events ++ [.lineOp .irq .deassert, .lineOp .dmarx .deassert, .lineOp .dmatx .deassert]
        pending := s.pending
        responses := s.responses ++ [.ack]
        slaveScript := s.slaveScript
        slaveDraws := s.slaveDraws }

/-- R171: after a RESET every read, of any register and any width, gives the response it gives right after
construction. -/
def Obligations.ReadsAfterResetMatchConstruction : Prop :=
  ∀ (s : State) (i : Instr), s.Ready → (encode i).kind = 0b00#2 →
    ∃ (t u : State) (r : Response),
      serveAll [.reset, i] s = .next t ∧ exec i (State.construct s.params) = .next u ∧
      t.responses = s.responses ++ [.ack, r] ∧ u.responses = [r]

/-- R46 (the zeros of CR1 and CR2 are spec decision D4; that nothing is pending or answered yet is log 1, 6, 7): the block
at construction, for every choice of the parameters. -/
def Obligations.ConstructionValues : Prop :=
  ∀ p : Params,
    (State.construct p).cr1.image = 0#32 ∧ (State.construct p).cr2.image = 0#32 ∧
    (State.construct p).srImage = 0#23 ++ p.rvSrTag ++ 0b10#2 ∧
    (State.construct p).crcpr = p.rvCrcpr ∧ (State.construct p).i2scfgr = p.rvI2scfgr ∧
    (State.construct p).i2spr = p.rvI2spr ∧ (State.construct p).fifo = [] ∧
    (State.construct p).levels = { irq := false, dmarx := false, dmatx := false } ∧
    (State.construct p).guard = .free ∧ (State.construct p).events = [] ∧ (State.construct p).params = p

/-- The invariant holds at construction, for all parameters that satisfy R6, and so in State.reset. -/
def Obligations.ConstructionMeetsInvariant : Prop :=
  (∀ p : Params, p.Valid → (State.construct p).Inv) ∧ State.reset.Inv

/-! ### Whole-machine rules -/

/-- R32, R27, R30, R31, R114, R118, R37 (R114 and R118 are derived in the spec): every step keeps the FIFO within its
capacity, the inert registers within their masks with I2SE at 0, DMARX deasserted, DMATX equal to TXDMAEN while the block
is not stuck, and the levels equal to what the recorded line calls leave. -/
def Obligations.StepKeepsInvariant : Prop :=
  ∀ s t : State, s.Inv → step s = .next t → t.Inv

/-- R32: the FIFO is empty at construction and after reset, only the data read path, the data write path and reset change
it, and it never exceeds its capacity. -/
def Obligations.OnlyDataPathAndResetChangeFifo : Prop :=
  (∀ p : Params, (State.construct p).fifo = []) ∧
  (∀ s : State, s.Ready → ∃ t, exec .reset s = .next t ∧ t.fifo = []) ∧
  (∀ (i : Instr) (s t : State), exec i s = .next t → t.fifo ≠ s.fifo →
    readTarget i = some .dr ∨ writeTarget i = some .dr ∨ i = .reset) ∧
  (∀ (i : Instr) (s t : State), s.fifo.length ≤ s.params.cap → exec i s = .next t →
    t.fifo.length ≤ t.params.cap ∧ t.params.cap = s.params.cap)

/-- R118, R58: each stored register changes only by a write that reaches it or by RESET; the guard changes only by a DR
write with a slave. -/
def Obligations.RegistersChangeOnlyByTheirWrites : Prop :=
  ∀ (i : Instr) (s t : State), exec i s = .next t →
    (t.cr1 ≠ s.cr1 → writeTarget i = some .cr1 ∨ i = .reset) ∧
    (t.cr2 ≠ s.cr2 → writeTarget i = some .cr2 ∨ i = .reset) ∧
    (t.crcpr ≠ s.crcpr → writeTarget i = some .crcpr ∨ i = .reset) ∧
    (t.i2scfgr ≠ s.i2scfgr → writeTarget i = some .i2scfgr ∨ i = .reset) ∧
    (t.i2spr ≠ s.i2spr → writeTarget i = some .i2spr ∨ i = .reset) ∧
    (t.guard ≠ s.guard → writeTarget i = some .dr ∧ s.params.slave = .present)

/-- R23, R105 (spec decisions D21, D22): two blocks that differ only in CR1 fields other than SPE serve every request
alike: same FIFO, lines, events, other registers and guard, and the same responses unless the request reads CR1. -/
def Obligations.InertControl1FieldsChangeNothing : Prop :=
  ∀ (i : Instr) (s t : State) (c : Cr1), c.spe = s.cr1.spe → exec i s = .next t →
    ∃ u, exec i { s with cr1 := c } = .next u ∧
      { u with cr1 := t.cr1, responses := t.responses } = t ∧
      (readTarget i ≠ some .cr1 → u.responses = t.responses)
end

