-- ==== Sys2Proof/Laws/Fields.lean ====
section
/-! SUPPORT. The bits of the register images (10_state.md R22, R24, R25) and of the values written to them. -/

namespace Sys2Proof.Machine

/-! ### CR1 -/

theorem Cr1.getLsbD_image (c : Cr1) (i : Nat) :
    c.image.getLsbD i =
      (decide (i < 32) &&
        (BitVec.ofBool c.bidimode ++ BitVec.ofBool c.bidioe ++ BitVec.ofBool c.crcen ++ BitVec.ofBool c.crcnext
          ++ BitVec.ofBool c.dff ++ BitVec.ofBool c.rxonly ++ BitVec.ofBool c.ssm ++ BitVec.ofBool c.ssi
          ++ BitVec.ofBool c.lsbfirst ++ BitVec.ofBool c.spe ++ c.br ++ BitVec.ofBool c.mstr
          ++ BitVec.ofBool c.cpol ++ BitVec.ofBool c.cpha).getLsbD i) := by
  simp only [Cr1.image, BitVec.getLsbD_setWidth]

/-- What CR1 reads after `v` was written to it: bits 15:0 of `v`. -/
theorem Cr1.image_ofWord (v : Word) : (Cr1.ofWord v).image = v &&& 0xFFFF#32 := by
  apply BitVec.eq_of_getLsbD_eq
  intro i hi
  simp only [Cr1.getLsbD_image, BitVec.getLsbD_append, BitVec.getLsbD_ofBool, Cr1.ofWord]
  interval_cases i <;> simp

theorem Cr1.extract_br (c : Cr1) : c.image.extractLsb' 3 3 = c.br := by
  apply BitVec.eq_of_getLsbD_eq
  intro i hi
  simp only [BitVec.getLsbD_extractLsb', Cr1.getLsbD_image, BitVec.getLsbD_append, BitVec.getLsbD_ofBool]
  interval_cases i <;> simp

theorem Cr1.extract_reserved (c : Cr1) : c.image.extractLsb' 16 16 = 0#16 := by
  apply BitVec.eq_of_getLsbD_eq
  intro i hi
  rw [BitVec.getLsbD_extractLsb', Cr1.getLsbD_image, BitVec.getLsbD_of_ge _ (16 + i) (by simp)]
  simp

/-! ### CR2 -/

/-- What CR2 reads after `v` was written to it: its stored bits. -/
theorem Cr2.image_ofWord (v : Word) : (Cr2.ofWord v).image = v &&& 0x1FF7#32 := by
  apply BitVec.eq_of_getLsbD_eq
  intro i hi
  simp only [Cr2.image, BitVec.getLsbD_setWidth, BitVec.getLsbD_append, BitVec.getLsbD_ofBool, Cr2.ofWord]
  interval_cases i <;> simp

/-! ### Narrow values -/

theorem widen8_eq (d : Byte) : widen8 d = 0#24 ++ d := by revert d; decide

theorem widen16_eq (d : Half) : widen16 d = 0#16 ++ d := by
  unfold widen16
  apply BitVec.eq_of_toNat_eq
  rw [BitVec.toNat_append]
  simp
  omega

/-- The low byte of the DR field is the low byte of the written value (R104). -/
theorem low8_low16 (v : Word) : (low16 v).extractLsb' 0 8 = v.extractLsb' 0 8 := by
  unfold low16
  apply BitVec.eq_of_toNat_eq
  simp

end Sys2Proof.Machine
end

