-- ==== Sys2Proof/Laws/State.lean ====
section
/-! SUPPORT. What each update of State does to each field: one lemma per field per update. -/

namespace Sys2Proof.Machine

/-! ### emit -/

@[simp] theorem State.emit_params (s : State) (e : Event) : (s.emit e).params = s.params := rfl
@[simp] theorem State.emit_cr1 (s : State) (e : Event) : (s.emit e).cr1 = s.cr1 := rfl
@[simp] theorem State.emit_cr2 (s : State) (e : Event) : (s.emit e).cr2 = s.cr2 := rfl
@[simp] theorem State.emit_crcpr (s : State) (e : Event) : (s.emit e).crcpr = s.crcpr := rfl
@[simp] theorem State.emit_i2scfgr (s : State) (e : Event) : (s.emit e).i2scfgr = s.i2scfgr := rfl
@[simp] theorem State.emit_i2spr (s : State) (e : Event) : (s.emit e).i2spr = s.i2spr := rfl
@[simp] theorem State.emit_fifo (s : State) (e : Event) : (s.emit e).fifo = s.fifo := rfl
@[simp] theorem State.emit_levels (s : State) (e : Event) : (s.emit e).levels = s.levels := rfl
@[simp] theorem State.emit_guard (s : State) (e : Event) : (s.emit e).guard = s.guard := rfl
@[simp] theorem State.emit_events (s : State) (e : Event) : (s.emit e).events = s.events ++ [e] := rfl
@[simp] theorem State.emit_pending (s : State) (e : Event) : (s.emit e).pending = s.pending := rfl
@[simp] theorem State.emit_responses (s : State) (e : Event) : (s.emit e).responses = s.responses := rfl
@[simp] theorem State.emit_slaveScript (s : State) (e : Event) : (s.emit e).slaveScript = s.slaveScript := rfl
@[simp] theorem State.emit_slaveDraws (s : State) (e : Event) : (s.emit e).slaveDraws = s.slaveDraws := rfl

/-! ### diag -/

@[simp] theorem State.diag_params (s : State) (v : Severity) (k : DiagKind) : (s.diag v k).params = s.params := rfl
@[simp] theorem State.diag_cr1 (s : State) (v : Severity) (k : DiagKind) : (s.diag v k).cr1 = s.cr1 := rfl
@[simp] theorem State.diag_cr2 (s : State) (v : Severity) (k : DiagKind) : (s.diag v k).cr2 = s.cr2 := rfl
@[simp] theorem State.diag_crcpr (s : State) (v : Severity) (k : DiagKind) : (s.diag v k).crcpr = s.crcpr := rfl
@[simp] theorem State.diag_i2scfgr (s : State) (v : Severity) (k : DiagKind) : (s.diag v k).i2scfgr = s.i2scfgr := rfl
@[simp] theorem State.diag_i2spr (s : State) (v : Severity) (k : DiagKind) : (s.diag v k).i2spr = s.i2spr := rfl
@[simp] theorem State.diag_fifo (s : State) (v : Severity) (k : DiagKind) : (s.diag v k).fifo = s.fifo := rfl
@[simp] theorem State.diag_levels (s : State) (v : Severity) (k : DiagKind) : (s.diag v k).levels = s.levels := rfl
@[simp] theorem State.diag_guard (s : State) (v : Severity) (k : DiagKind) : (s.diag v k).guard = s.guard := rfl
@[simp] theorem State.diag_events (s : State) (v : Severity) (k : DiagKind) : (s.diag v k).events = s.events ++ [.diag v k] := rfl
@[simp] theorem State.diag_pending (s : State) (v : Severity) (k : DiagKind) : (s.diag v k).pending = s.pending := rfl
@[simp] theorem State.diag_responses (s : State) (v : Severity) (k : DiagKind) : (s.diag v k).responses = s.responses := rfl
@[simp] theorem State.diag_slaveScript (s : State) (v : Severity) (k : DiagKind) : (s.diag v k).slaveScript = s.slaveScript := rfl
@[simp] theorem State.diag_slaveDraws (s : State) (v : Severity) (k : DiagKind) : (s.diag v k).slaveDraws = s.slaveDraws := rfl

/-! ### setLevel -/

@[simp] theorem State.setLevel_params (s : State) (l : Line) (b : Bool) : (s.setLevel l b).params = s.params := rfl
@[simp] theorem State.setLevel_cr1 (s : State) (l : Line) (b : Bool) : (s.setLevel l b).cr1 = s.cr1 := rfl
@[simp] theorem State.setLevel_cr2 (s : State) (l : Line) (b : Bool) : (s.setLevel l b).cr2 = s.cr2 := rfl
@[simp] theorem State.setLevel_crcpr (s : State) (l : Line) (b : Bool) : (s.setLevel l b).crcpr = s.crcpr := rfl
@[simp] theorem State.setLevel_i2scfgr (s : State) (l : Line) (b : Bool) : (s.setLevel l b).i2scfgr = s.i2scfgr := rfl
@[simp] theorem State.setLevel_i2spr (s : State) (l : Line) (b : Bool) : (s.setLevel l b).i2spr = s.i2spr := rfl
@[simp] theorem State.setLevel_fifo (s : State) (l : Line) (b : Bool) : (s.setLevel l b).fifo = s.fifo := rfl
@[simp] theorem State.setLevel_levels (s : State) (l : Line) (b : Bool) : (s.setLevel l b).levels = s.levels.set b l := rfl
@[simp] theorem State.setLevel_guard (s : State) (l : Line) (b : Bool) : (s.setLevel l b).guard = s.guard := rfl
@[simp] theorem State.setLevel_events (s : State) (l : Line) (b : Bool) : (s.setLevel l b).events = s.events := rfl
@[simp] theorem State.setLevel_pending (s : State) (l : Line) (b : Bool) : (s.setLevel l b).pending = s.pending := rfl
@[simp] theorem State.setLevel_responses (s : State) (l : Line) (b : Bool) : (s.setLevel l b).responses = s.responses := rfl
@[simp] theorem State.setLevel_slaveScript (s : State) (l : Line) (b : Bool) : (s.setLevel l b).slaveScript = s.slaveScript := rfl
@[simp] theorem State.setLevel_slaveDraws (s : State) (l : Line) (b : Bool) : (s.setLevel l b).slaveDraws = s.slaveDraws := rfl

/-! ### lineAssert -/

@[simp] theorem State.lineAssert_params (s : State) (l : Line) : (s.lineAssert l).params = s.params := rfl
@[simp] theorem State.lineAssert_cr1 (s : State) (l : Line) : (s.lineAssert l).cr1 = s.cr1 := rfl
@[simp] theorem State.lineAssert_cr2 (s : State) (l : Line) : (s.lineAssert l).cr2 = s.cr2 := rfl
@[simp] theorem State.lineAssert_crcpr (s : State) (l : Line) : (s.lineAssert l).crcpr = s.crcpr := rfl
@[simp] theorem State.lineAssert_i2scfgr (s : State) (l : Line) : (s.lineAssert l).i2scfgr = s.i2scfgr := rfl
@[simp] theorem State.lineAssert_i2spr (s : State) (l : Line) : (s.lineAssert l).i2spr = s.i2spr := rfl
@[simp] theorem State.lineAssert_fifo (s : State) (l : Line) : (s.lineAssert l).fifo = s.fifo := rfl
@[simp] theorem State.lineAssert_levels (s : State) (l : Line) : (s.lineAssert l).levels = s.levels.set true l := rfl
@[simp] theorem State.lineAssert_guard (s : State) (l : Line) : (s.lineAssert l).guard = s.guard := rfl
@[simp] theorem State.lineAssert_events (s : State) (l : Line) : (s.lineAssert l).events = s.events ++ [.lineOp l .assert] := rfl
@[simp] theorem State.lineAssert_pending (s : State) (l : Line) : (s.lineAssert l).pending = s.pending := rfl
@[simp] theorem State.lineAssert_responses (s : State) (l : Line) : (s.lineAssert l).responses = s.responses := rfl
@[simp] theorem State.lineAssert_slaveScript (s : State) (l : Line) : (s.lineAssert l).slaveScript = s.slaveScript := rfl
@[simp] theorem State.lineAssert_slaveDraws (s : State) (l : Line) : (s.lineAssert l).slaveDraws = s.slaveDraws := rfl

/-! ### lineDeassert -/

@[simp] theorem State.lineDeassert_params (s : State) (l : Line) : (s.lineDeassert l).params = s.params := rfl
@[simp] theorem State.lineDeassert_cr1 (s : State) (l : Line) : (s.lineDeassert l).cr1 = s.cr1 := rfl
@[simp] theorem State.lineDeassert_cr2 (s : State) (l : Line) : (s.lineDeassert l).cr2 = s.cr2 := rfl
@[simp] theorem State.lineDeassert_crcpr (s : State) (l : Line) : (s.lineDeassert l).crcpr = s.crcpr := rfl
@[simp] theorem State.lineDeassert_i2scfgr (s : State) (l : Line) : (s.lineDeassert l).i2scfgr = s.i2scfgr := rfl
@[simp] theorem State.lineDeassert_i2spr (s : State) (l : Line) : (s.lineDeassert l).i2spr = s.i2spr := rfl
@[simp] theorem State.lineDeassert_fifo (s : State) (l : Line) : (s.lineDeassert l).fifo = s.fifo := rfl
@[simp] theorem State.lineDeassert_levels (s : State) (l : Line) : (s.lineDeassert l).levels = s.levels.set false l := rfl
@[simp] theorem State.lineDeassert_guard (s : State) (l : Line) : (s.lineDeassert l).guard = s.guard := rfl
@[simp] theorem State.lineDeassert_events (s : State) (l : Line) : (s.lineDeassert l).events = s.events ++ [.lineOp l .deassert] := rfl
@[simp] theorem State.lineDeassert_pending (s : State) (l : Line) : (s.lineDeassert l).pending = s.pending := rfl
@[simp] theorem State.lineDeassert_responses (s : State) (l : Line) : (s.lineDeassert l).responses = s.responses := rfl
@[simp] theorem State.lineDeassert_slaveScript (s : State) (l : Line) : (s.lineDeassert l).slaveScript = s.slaveScript := rfl
@[simp] theorem State.lineDeassert_slaveDraws (s : State) (l : Line) : (s.lineDeassert l).slaveDraws = s.slaveDraws := rfl

/-! ### enqueue -/

@[simp] theorem State.enqueue_params (s : State) (b : Byte) : (s.enqueue b).params = s.params := rfl
@[simp] theorem State.enqueue_cr1 (s : State) (b : Byte) : (s.enqueue b).cr1 = s.cr1 := rfl
@[simp] theorem State.enqueue_cr2 (s : State) (b : Byte) : (s.enqueue b).cr2 = s.cr2 := rfl
@[simp] theorem State.enqueue_crcpr (s : State) (b : Byte) : (s.enqueue b).crcpr = s.crcpr := rfl
@[simp] theorem State.enqueue_i2scfgr (s : State) (b : Byte) : (s.enqueue b).i2scfgr = s.i2scfgr := rfl
@[simp] theorem State.enqueue_i2spr (s : State) (b : Byte) : (s.enqueue b).i2spr = s.i2spr := rfl
@[simp] theorem State.enqueue_fifo (s : State) (b : Byte) : (s.enqueue b).fifo = fifoPush s.params.cap s.fifo b := rfl
@[simp] theorem State.enqueue_levels (s : State) (b : Byte) : (s.enqueue b).levels = s.levels := rfl
@[simp] theorem State.enqueue_guard (s : State) (b : Byte) : (s.enqueue b).guard = s.guard := rfl
@[simp] theorem State.enqueue_events (s : State) (b : Byte) : (s.enqueue b).events = s.events := rfl
@[simp] theorem State.enqueue_pending (s : State) (b : Byte) : (s.enqueue b).pending = s.pending := rfl
@[simp] theorem State.enqueue_responses (s : State) (b : Byte) : (s.enqueue b).responses = s.responses := rfl
@[simp] theorem State.enqueue_slaveScript (s : State) (b : Byte) : (s.enqueue b).slaveScript = s.slaveScript := rfl
@[simp] theorem State.enqueue_slaveDraws (s : State) (b : Byte) : (s.enqueue b).slaveDraws = s.slaveDraws := rfl

/-! ### clearFifo -/

@[simp] theorem State.clearFifo_params (s : State) : (s.clearFifo).params = s.params := rfl
@[simp] theorem State.clearFifo_cr1 (s : State) : (s.clearFifo).cr1 = s.cr1 := rfl
@[simp] theorem State.clearFifo_cr2 (s : State) : (s.clearFifo).cr2 = s.cr2 := rfl
@[simp] theorem State.clearFifo_crcpr (s : State) : (s.clearFifo).crcpr = s.crcpr := rfl
@[simp] theorem State.clearFifo_i2scfgr (s : State) : (s.clearFifo).i2scfgr = s.i2scfgr := rfl
@[simp] theorem State.clearFifo_i2spr (s : State) : (s.clearFifo).i2spr = s.i2spr := rfl
@[simp] theorem State.clearFifo_fifo (s : State) : (s.clearFifo).fifo = [] := rfl
@[simp] theorem State.clearFifo_levels (s : State) : (s.clearFifo).levels = s.levels := rfl
@[simp] theorem State.clearFifo_guard (s : State) : (s.clearFifo).guard = s.guard := rfl
@[simp] theorem State.clearFifo_events (s : State) : (s.clearFifo).events = s.events := rfl
@[simp] theorem State.clearFifo_pending (s : State) : (s.clearFifo).pending = s.pending := rfl
@[simp] theorem State.clearFifo_responses (s : State) : (s.clearFifo).responses = s.responses := rfl
@[simp] theorem State.clearFifo_slaveScript (s : State) : (s.clearFifo).slaveScript = s.slaveScript := rfl
@[simp] theorem State.clearFifo_slaveDraws (s : State) : (s.clearFifo).slaveDraws = s.slaveDraws := rfl

/-! ### holdForever -/

@[simp] theorem State.holdForever_params (s : State) : (s.holdForever).params = s.params := rfl
@[simp] theorem State.holdForever_cr1 (s : State) : (s.holdForever).cr1 = s.cr1 := rfl
@[simp] theorem State.holdForever_cr2 (s : State) : (s.holdForever).cr2 = s.cr2 := rfl
@[simp] theorem State.holdForever_crcpr (s : State) : (s.holdForever).crcpr = s.crcpr := rfl
@[simp] theorem State.holdForever_i2scfgr (s : State) : (s.holdForever).i2scfgr = s.i2scfgr := rfl
@[simp] theorem State.holdForever_i2spr (s : State) : (s.holdForever).i2spr = s.i2spr := rfl
@[simp] theorem State.holdForever_fifo (s : State) : (s.holdForever).fifo = s.fifo := rfl
@[simp] theorem State.holdForever_levels (s : State) : (s.holdForever).levels = s.levels := rfl
@[simp] theorem State.holdForever_guard (s : State) : (s.holdForever).guard = .heldForever := rfl
@[simp] theorem State.holdForever_events (s : State) : (s.holdForever).events = s.events := rfl
@[simp] theorem State.holdForever_pending (s : State) : (s.holdForever).pending = s.pending := rfl
@[simp] theorem State.holdForever_responses (s : State) : (s.holdForever).responses = s.responses := rfl
@[simp] theorem State.holdForever_slaveScript (s : State) : (s.holdForever).slaveScript = s.slaveScript := rfl
@[simp] theorem State.holdForever_slaveDraws (s : State) : (s.holdForever).slaveDraws = s.slaveDraws := rfl

/-! ### respond -/

@[simp] theorem State.respond_params (s : State) (r : Response) : (s.respond r).params = s.params := rfl
@[simp] theorem State.respond_cr1 (s : State) (r : Response) : (s.respond r).cr1 = s.cr1 := rfl
@[simp] theorem State.respond_cr2 (s : State) (r : Response) : (s.respond r).cr2 = s.cr2 := rfl
@[simp] theorem State.respond_crcpr (s : State) (r : Response) : (s.respond r).crcpr = s.crcpr := rfl
@[simp] theorem State.respond_i2scfgr (s : State) (r : Response) : (s.respond r).i2scfgr = s.i2scfgr := rfl
@[simp] theorem State.respond_i2spr (s : State) (r : Response) : (s.respond r).i2spr = s.i2spr := rfl
@[simp] theorem State.respond_fifo (s : State) (r : Response) : (s.respond r).fifo = s.fifo := rfl
@[simp] theorem State.respond_levels (s : State) (r : Response) : (s.respond r).levels = s.levels := rfl
@[simp] theorem State.respond_guard (s : State) (r : Response) : (s.respond r).guard = s.guard := rfl
@[simp] theorem State.respond_events (s : State) (r : Response) : (s.respond r).events = s.events := rfl
@[simp] theorem State.respond_pending (s : State) (r : Response) : (s.respond r).pending = s.pending := rfl
@[simp] theorem State.respond_responses (s : State) (r : Response) : (s.respond r).responses = s.responses ++ [r] := rfl
@[simp] theorem State.respond_slaveScript (s : State) (r : Response) : (s.respond r).slaveScript = s.slaveScript := rfl
@[simp] theorem State.respond_slaveDraws (s : State) (r : Response) : (s.respond r).slaveDraws = s.slaveDraws := rfl

/-! ### restoreFields -/

@[simp] theorem State.restoreFields_params (s : State) : (s.restoreFields).params = s.params := rfl
@[simp] theorem State.restoreFields_cr1 (s : State) : (s.restoreFields).cr1 = Cr1.zero := rfl
@[simp] theorem State.restoreFields_cr2 (s : State) : (s.restoreFields).cr2 = Cr2.zero := rfl
@[simp] theorem State.restoreFields_crcpr (s : State) : (s.restoreFields).crcpr = s.params.rvCrcpr := rfl
@[simp] theorem State.restoreFields_i2scfgr (s : State) : (s.restoreFields).i2scfgr = s.params.rvI2scfgr := rfl
@[simp] theorem State.restoreFields_i2spr (s : State) : (s.restoreFields).i2spr = s.params.rvI2spr := rfl
@[simp] theorem State.restoreFields_fifo (s : State) : (s.restoreFields).fifo = s.fifo := rfl
@[simp] theorem State.restoreFields_levels (s : State) : (s.restoreFields).levels = s.levels := rfl
@[simp] theorem State.restoreFields_guard (s : State) : (s.restoreFields).guard = s.guard := rfl
@[simp] theorem State.restoreFields_events (s : State) : (s.restoreFields).events = s.events := rfl
@[simp] theorem State.restoreFields_pending (s : State) : (s.restoreFields).pending = s.pending := rfl
@[simp] theorem State.restoreFields_responses (s : State) : (s.restoreFields).responses = s.responses := rfl
@[simp] theorem State.restoreFields_slaveScript (s : State) : (s.restoreFields).slaveScript = s.slaveScript := rfl
@[simp] theorem State.restoreFields_slaveDraws (s : State) : (s.restoreFields).slaveDraws = s.slaveDraws := rfl

/-! ### withPending -/

@[simp] theorem State.withPending_params (s : State) (p : List Request) : (s.withPending p).params = s.params := rfl
@[simp] theorem State.withPending_cr1 (s : State) (p : List Request) : (s.withPending p).cr1 = s.cr1 := rfl
@[simp] theorem State.withPending_cr2 (s : State) (p : List Request) : (s.withPending p).cr2 = s.cr2 := rfl
@[simp] theorem State.withPending_crcpr (s : State) (p : List Request) : (s.withPending p).crcpr = s.crcpr := rfl
@[simp] theorem State.withPending_i2scfgr (s : State) (p : List Request) : (s.withPending p).i2scfgr = s.i2scfgr := rfl
@[simp] theorem State.withPending_i2spr (s : State) (p : List Request) : (s.withPending p).i2spr = s.i2spr := rfl
@[simp] theorem State.withPending_fifo (s : State) (p : List Request) : (s.withPending p).fifo = s.fifo := rfl
@[simp] theorem State.withPending_levels (s : State) (p : List Request) : (s.withPending p).levels = s.levels := rfl
@[simp] theorem State.withPending_guard (s : State) (p : List Request) : (s.withPending p).guard = s.guard := rfl
@[simp] theorem State.withPending_events (s : State) (p : List Request) : (s.withPending p).events = s.events := rfl
@[simp] theorem State.withPending_pending (s : State) (p : List Request) : (s.withPending p).pending = p := rfl
@[simp] theorem State.withPending_responses (s : State) (p : List Request) : (s.withPending p).responses = s.responses := rfl
@[simp] theorem State.withPending_slaveScript (s : State) (p : List Request) : (s.withPending p).slaveScript = s.slaveScript := rfl
@[simp] theorem State.withPending_slaveDraws (s : State) (p : List Request) : (s.withPending p).slaveDraws = s.slaveDraws := rfl

/-! ### Levels -/

@[simp] theorem Levels.set_irq (l : Levels) (b : Bool) : l.set b .irq = { l with irq := b } := rfl
@[simp] theorem Levels.set_dmarx (l : Levels) (b : Bool) : l.set b .dmarx = { l with dmarx := b } := rfl
@[simp] theorem Levels.set_dmatx (l : Levels) (b : Bool) : l.set b .dmatx = { l with dmatx := b } := rfl
@[simp] theorem Levels.get_irq (l : Levels) : l.get .irq = l.irq := rfl
@[simp] theorem Levels.get_dmarx (l : Levels) : l.get .dmarx = l.dmarx := rfl
@[simp] theorem Levels.get_dmatx (l : Levels) : l.get .dmatx = l.dmatx := rfl

end Sys2Proof.Machine
end

