-- ==== Sys2Proof/Laws/Ops.lean ====
section
/-! SUPPORT. One specification lemma per shared operation; later proofs cite these instead of unfolding. -/

namespace Sys2Proof.Machine

/-! ### Serving -/

theorem serve_of_ready {s : State} (h : s.Ready) (f : State → State) : serve s f = .next (f s) := by
  simp only [serve, if_pos h.1, h.2]

theorem serve_invalid {s : State} (h : ¬ s.params.Valid) (f : State → State) :
    serve s f = .refused .badConfiguration := if_neg h

theorem serve_held {s : State} (hv : s.params.Valid) (hg : s.guard = .heldForever) (f : State → State) :
    serve s f = .fault .stuck := by
  simp only [serve, if_pos hv, hg]

/-- All that a served request can answer as a next state. -/
theorem serve_next {s t : State} {f : State → State} (h : serve s f = .next t) : s.Ready ∧ t = f s := by
  unfold serve at h
  split at h
  · rename_i hv
    cases hg : s.guard with
    | free => rw [hg] at h; exact ⟨⟨hv, hg⟩, (Host.Outcome.next.inj h).symm⟩
    | heldForever => rw [hg] at h; cases h
  · cases h

/-! ### What each request does once it is served -/

/-- The effect of a request on a ready block: the handler `exec` serves it with. -/
def effect (i : Instr) (s : State) : State :=
  match i with
  | .rd32Cr1 => s.respond (.data32 s.cr1.image)
  | .rd32Cr2 => s.respond (.data32 s.cr2.image)
  | .rd32Sr => s.respond (.data32 s.srImage)
  | .rd32Dr => (readDr s).2.respond (.data32 (readDr s).1)
  | .rd32Crcpr => s.respond (.data32 s.crcpr)
  | .rd32Rxcrcr => s.respond (.data32 s.params.rvRxcrcr)
  | .rd32Txcrcr => s.respond (.data32 s.params.rvTxcrcr)
  | .rd32I2scfgr => s.respond (.data32 s.i2scfgr)
  | .rd32I2spr => s.respond (.data32 s.i2spr)
  | .wr32Cr1 d => (writeCr1 d s).acknowledge
  | .wr32Cr2 d => (writeCr2 d s).acknowledge
  | .wr32Sr d => (writeSr d s).acknowledge
  | .wr32Dr d => (writeDr d s).acknowledge
  | .wr32Crcpr d => (writeCrcpr d s).acknowledge
  | .wr32Rxcrcr d => (writeRxcrcr d s).acknowledge
  | .wr32Txcrcr d => (writeTxcrcr d s).acknowledge
  | .wr32I2scfgr d => (writeI2scfgr d s).acknowledge
  | .wr32I2spr d => (writeI2spr d s).acknowledge
  | .rd32Unbacked off => (unhandledRead off .bits32 s).2.respond (.data32 0#32)
  | .wr32Unbacked off d => (unhandledWrite off .bits32 d s).acknowledge
  | .rd16 off => (dwRead off s).2.respond (.data16 (low16 (dwRead off s).1))
  | .wr16 off d => (dwWrite off (widen16 d) s).acknowledge
  | .rd8Aligned off => (dwRead off s).2.respond (.data8 (low8 (dwRead off s).1))
  | .rd8Misaligned off => (unhandledRead off .bits8 s).2.respond (.data8 0#8)
  | .wr8Aligned off d => (dwWrite off (widen8 d) s).acknowledge
  | .wr8Misaligned off d => (unhandledWrite off .bits8 (widen8 d) s).acknowledge
  | .reset => (resetBlock s).acknowledge

/-- Every arm of `exec` serves its request with its effect. -/
theorem exec_eq_serve (i : Instr) (s : State) : exec i s = serve s (effect i) := by cases i <;> rfl

theorem exec_of_ready {s : State} (h : s.Ready) (i : Instr) : exec i s = .next (effect i s) := by
  rw [exec_eq_serve, serve_of_ready h]

/-- All that `exec` can answer as a next state. -/
theorem exec_next {i : Instr} {s t : State} (h : exec i s = .next t) : s.Ready ∧ t = effect i s :=
  serve_next (exec_eq_serve i s ▸ h)

/-! ### Acknowledgement -/

theorem State.acknowledge_of_free {s : State} (h : s.guard = .free) : s.acknowledge = s.respond .ack := by
  simp only [State.acknowledge, h]

theorem State.acknowledge_of_held {s : State} (h : s.guard = .heldForever) : s.acknowledge = s := by
  simp only [State.acknowledge, h]

/-! ### The inert diagnostic -/

/-- The events `InertDiag` appends. -/
def inertEvents (r : Reg) (v : Word) : List Event :=
  if v &&& tagged r = 0#32 then [] else [.diag .debug (.inertWrite r.offset (v &&& tagged r))]

theorem State.inertDiag_eq (r : Reg) (v : Word) (s : State) :
    s.inertDiag r v = { s with events := s.events ++ inertEvents r v } := by
  unfold State.inertDiag inertEvents
  split <;> simp [State.diag, State.emit]

/-! ### Reconcile -/

/-- The DMATX calls of `Reconcile`. -/
def dmatxCalls (s : State) : List Event :=
  if s.cr2.txdmaen then
    if s.levels.dmatx then [] else [.lineOp .dmatx .deassert, .lineOp .dmatx .assert]
  else [.lineOp .dmatx .deassert]

/-- The IRQ call of `Reconcile`. -/
def irqCall (s : State) : Event := .lineOp .irq (if s.irqCondition then .assert else .deassert)

/-- All that `Reconcile` does. -/
theorem State.reconcile_eq (s : State) :
    s.reconcile =
      { s with
        levels := { s.levels with irq := s.irqCondition, dmatx := s.cr2.txdmaen }
        events := s.events ++ dmatxCalls s ++ [irqCall s] } := by
  obtain ⟨p, c1, c2, a, b, c, f, ⟨li, lr, lt⟩, g, ev, pe, re, sc, dr⟩ := s
  obtain ⟨rx, tx, so, fr, er, rn, te, vr⟩ := c2
  cases tx <;> cases lt <;> cases te <;> cases rn <;> cases f <;>
    simp [State.reconcile, State.reconcileDmatx, State.reconcileIrq, State.irqCondition, State.rxne,
      dmatxCalls, irqCall, State.lineAssert, State.lineDeassert, State.setLevel, State.emit]

/-! ### The FIFO -/

theorem fifoPush_ne_nil (cap : Nat) (fifo : List Byte) (b : Byte) : fifoPush cap fifo b ≠ [] := by
  simp [fifoPush]

theorem length_fifoPush {cap : Nat} {fifo : List Byte} (hc : 1 ≤ cap) (h : fifo.length ≤ cap) (b : Byte) :
    (fifoPush cap fifo b).length = min (fifo.length + 1) cap := by
  unfold fifoPush
  split <;> simp <;> omega

/-! ### Levels and events -/

theorem levelsAfter_append (l : Levels) (xs ys : List Event) :
    levelsAfter l (xs ++ ys) = levelsAfter (levelsAfter l xs) ys := by
  induction xs generalizing l with
  | nil => rfl
  | cons e rest ih => cases e <;> simp [levelsAfter, ih]

/-! ### The data path -/

/-- A DR read that finds the FIFO empty. -/
theorem readDr_empty {s : State} (h : s.fifo = []) : readDr s = (0#32, s.lineDeassert .irq) := by
  simp [readDr, State.dequeue, h]

/-- A DR read that dequeues. -/
theorem readDr_cons {s : State} {b : Byte} {rest : List Byte} (h : s.fifo = b :: rest) :
    readDr s = (b.setWidth 32, State.reconcile { s.lineDeassert .irq with fifo := rest }) := by
  simp [readDr, State.dequeue, h]

/-- The state in which the slave is asked for its answer (R101 step 1, R103 step 3a). -/
def beforeExchange (s : State) : State := (s.lineDeassert .irq).lineDeassert .dmatx

theorem writeDr_absent {s : State} (h : s.params.slave = .absent) (v : Word) :
    writeDr v s = noSlaveWrite (low16 v) (s.lineDeassert .irq) := by
  simp [writeDr, h]

theorem writeDr_byte {s : State} (h : s.params.slave = .present) {v : Word} {rx : Byte}
    (ha : (beforeExchange s).slaveAnswer ((low16 v).extractLsb' 0 8) = .byte rx) :
    writeDr v s = slaveReturned ((low16 v).extractLsb' 0 8) rx (beforeExchange s).takeAnswer := by
  unfold beforeExchange at ha ⊢
  simp [writeDr, h, slaveWrite, ha]

theorem writeDr_stall {s : State} (h : s.params.slave = .present) {v : Word}
    (ha : (beforeExchange s).slaveAnswer ((low16 v).extractLsb' 0 8) = .stall) :
    writeDr v s = (beforeExchange s).takeAnswer.holdForever := by
  unfold beforeExchange at ha ⊢
  simp [writeDr, h, slaveWrite, ha]

/-- Taking the slave's answer touches only the model's two slave fields. -/
theorem State.takeAnswer_eq (s : State) :
    s.takeAnswer = { s with slaveScript := s.takeAnswer.slaveScript, slaveDraws := s.takeAnswer.slaveDraws } := by
  unfold State.takeAnswer
  split <;> rfl

@[simp] theorem State.takeAnswer_params (s : State) : s.takeAnswer.params = s.params := by
  rw [State.takeAnswer_eq]
@[simp] theorem State.takeAnswer_cr1 (s : State) : s.takeAnswer.cr1 = s.cr1 := by
  rw [State.takeAnswer_eq]
@[simp] theorem State.takeAnswer_cr2 (s : State) : s.takeAnswer.cr2 = s.cr2 := by
  rw [State.takeAnswer_eq]
@[simp] theorem State.takeAnswer_crcpr (s : State) : s.takeAnswer.crcpr = s.crcpr := by
  rw [State.takeAnswer_eq]
@[simp] theorem State.takeAnswer_i2scfgr (s : State) : s.takeAnswer.i2scfgr = s.i2scfgr := by
  rw [State.takeAnswer_eq]
@[simp] theorem State.takeAnswer_i2spr (s : State) : s.takeAnswer.i2spr = s.i2spr := by
  rw [State.takeAnswer_eq]
@[simp] theorem State.takeAnswer_fifo (s : State) : s.takeAnswer.fifo = s.fifo := by
  rw [State.takeAnswer_eq]
@[simp] theorem State.takeAnswer_levels (s : State) : s.takeAnswer.levels = s.levels := by
  rw [State.takeAnswer_eq]
@[simp] theorem State.takeAnswer_guard (s : State) : s.takeAnswer.guard = s.guard := by
  rw [State.takeAnswer_eq]
@[simp] theorem State.takeAnswer_events (s : State) : s.takeAnswer.events = s.events := by
  rw [State.takeAnswer_eq]
@[simp] theorem State.takeAnswer_pending (s : State) : s.takeAnswer.pending = s.pending := by
  rw [State.takeAnswer_eq]
@[simp] theorem State.takeAnswer_responses (s : State) : s.takeAnswer.responses = s.responses := by
  rw [State.takeAnswer_eq]

/-! ### What the data path leaves alone -/

/-- The slave-write steps after the exchange, as one update. -/
theorem slaveReturned_eq (tx rx : Byte) (s : State) :
    slaveReturned tx rx s =
      { s with
        fifo := fifoPush s.params.cap s.fifo rx
        levels :=
          { irq := s.cr2.txeie || s.cr2.rxneie
            dmarx := if s.cr2.rxdmaen then false else s.levels.dmarx
            dmatx := s.cr2.txdmaen }
        events := s.events ++ [.xfer tx rx] ++
          (if s.cr2.rxdmaen then [.lineOp .dmarx .assert, .lineOp .dmarx .deassert] else []) ++
          dmatxCalls s ++
          [.lineOp .irq (if s.cr2.txeie || s.cr2.rxneie then .assert else .deassert)] } := by
  have hp : (fifoPush s.params.cap s.fifo rx).isEmpty = false := by simp [fifoPush]
  unfold slaveReturned
  rw [State.reconcile_eq]
  cases hr : s.cr2.rxdmaen <;>
    simp [hr, State.linePulse, State.emit, State.enqueue, State.lineAssert, State.lineDeassert, State.setLevel,
      dmatxCalls, irqCall, State.irqCondition, State.rxne, hp]

@[simp] theorem readDr_params (s : State) : (readDr s).2.params = s.params := by
  cases h : s.fifo with
  | nil => simp [readDr_empty h]
  | cons b rest => simp [readDr_cons h, State.reconcile_eq]
@[simp] theorem readDr_cr1 (s : State) : (readDr s).2.cr1 = s.cr1 := by
  cases h : s.fifo with
  | nil => simp [readDr_empty h]
  | cons b rest => simp [readDr_cons h, State.reconcile_eq]
@[simp] theorem readDr_cr2 (s : State) : (readDr s).2.cr2 = s.cr2 := by
  cases h : s.fifo with
  | nil => simp [readDr_empty h]
  | cons b rest => simp [readDr_cons h, State.reconcile_eq]
@[simp] theorem readDr_crcpr (s : State) : (readDr s).2.crcpr = s.crcpr := by
  cases h : s.fifo with
  | nil => simp [readDr_empty h]
  | cons b rest => simp [readDr_cons h, State.reconcile_eq]
@[simp] theorem readDr_i2scfgr (s : State) : (readDr s).2.i2scfgr = s.i2scfgr := by
  cases h : s.fifo with
  | nil => simp [readDr_empty h]
  | cons b rest => simp [readDr_cons h, State.reconcile_eq]
@[simp] theorem readDr_i2spr (s : State) : (readDr s).2.i2spr = s.i2spr := by
  cases h : s.fifo with
  | nil => simp [readDr_empty h]
  | cons b rest => simp [readDr_cons h, State.reconcile_eq]
@[simp] theorem readDr_pending (s : State) : (readDr s).2.pending = s.pending := by
  cases h : s.fifo with
  | nil => simp [readDr_empty h]
  | cons b rest => simp [readDr_cons h, State.reconcile_eq]
@[simp] theorem readDr_responses (s : State) : (readDr s).2.responses = s.responses := by
  cases h : s.fifo with
  | nil => simp [readDr_empty h]
  | cons b rest => simp [readDr_cons h, State.reconcile_eq]

/-- The three ways a DR write can go. -/
theorem writeDr_cases (v : Word) (s : State) :
    (s.params.slave = .absent ∧ writeDr v s = noSlaveWrite (low16 v) (s.lineDeassert .irq)) ∨
    (s.params.slave = .present ∧ ∃ rx,
      writeDr v s = slaveReturned ((low16 v).extractLsb' 0 8) rx (beforeExchange s).takeAnswer) ∨
    (s.params.slave = .present ∧ writeDr v s = (beforeExchange s).takeAnswer.holdForever) := by
  cases hs : s.params.slave with
  | absent => exact .inl ⟨rfl, writeDr_absent hs v⟩
  | present =>
    cases ha : (beforeExchange s).slaveAnswer ((low16 v).extractLsb' 0 8) with
    | byte rx => exact .inr (.inl ⟨rfl, rx, writeDr_byte hs ha⟩)
    | stall => exact .inr (.inr ⟨rfl, writeDr_stall hs ha⟩)

@[simp] theorem writeDr_params (v : Word) (s : State) : (writeDr v s).params = s.params := by
  rcases writeDr_cases v s with ⟨_, h⟩ | ⟨_, rx, h⟩ | ⟨_, h⟩ <;>
    simp [h, noSlaveWrite, slaveReturned_eq, beforeExchange]
@[simp] theorem writeDr_cr1 (v : Word) (s : State) : (writeDr v s).cr1 = s.cr1 := by
  rcases writeDr_cases v s with ⟨_, h⟩ | ⟨_, rx, h⟩ | ⟨_, h⟩ <;>
    simp [h, noSlaveWrite, slaveReturned_eq, beforeExchange]
@[simp] theorem writeDr_cr2 (v : Word) (s : State) : (writeDr v s).cr2 = s.cr2 := by
  rcases writeDr_cases v s with ⟨_, h⟩ | ⟨_, rx, h⟩ | ⟨_, h⟩ <;>
    simp [h, noSlaveWrite, slaveReturned_eq, beforeExchange]
@[simp] theorem writeDr_crcpr (v : Word) (s : State) : (writeDr v s).crcpr = s.crcpr := by
  rcases writeDr_cases v s with ⟨_, h⟩ | ⟨_, rx, h⟩ | ⟨_, h⟩ <;>
    simp [h, noSlaveWrite, slaveReturned_eq, beforeExchange]
@[simp] theorem writeDr_i2scfgr (v : Word) (s : State) : (writeDr v s).i2scfgr = s.i2scfgr := by
  rcases writeDr_cases v s with ⟨_, h⟩ | ⟨_, rx, h⟩ | ⟨_, h⟩ <;>
    simp [h, noSlaveWrite, slaveReturned_eq, beforeExchange]
@[simp] theorem writeDr_i2spr (v : Word) (s : State) : (writeDr v s).i2spr = s.i2spr := by
  rcases writeDr_cases v s with ⟨_, h⟩ | ⟨_, rx, h⟩ | ⟨_, h⟩ <;>
    simp [h, noSlaveWrite, slaveReturned_eq, beforeExchange]
@[simp] theorem writeDr_pending (v : Word) (s : State) : (writeDr v s).pending = s.pending := by
  rcases writeDr_cases v s with ⟨_, h⟩ | ⟨_, rx, h⟩ | ⟨_, h⟩ <;>
    simp [h, noSlaveWrite, slaveReturned_eq, beforeExchange]
@[simp] theorem writeDr_responses (v : Word) (s : State) : (writeDr v s).responses = s.responses := by
  rcases writeDr_cases v s with ⟨_, h⟩ | ⟨_, rx, h⟩ | ⟨_, h⟩ <;>
    simp [h, noSlaveWrite, slaveReturned_eq, beforeExchange]

/-! ### What a request can do, by the register it reaches -/

/-- The 32-bit read of a register. -/
def readReg (r : Reg) (s : State) : Word × State :=
  match r with
  | .cr1 => readCr1 s
  | .cr2 => readCr2 s
  | .sr => readSr s
  | .dr => readDr s
  | .crcpr => readCrcpr s
  | .rxcrcr => readRxcrcr s
  | .txcrcr => readTxcrcr s
  | .i2scfgr => readI2scfgr s
  | .i2spr => readI2spr s

/-- The 32-bit write of a register. -/
def writeReg (r : Reg) (v : Word) (s : State) : State :=
  match r with
  | .cr1 => writeCr1 v s
  | .cr2 => writeCr2 v s
  | .sr => writeSr v s
  | .dr => writeDr v s
  | .crcpr => writeCrcpr v s
  | .rxcrcr => writeRxcrcr v s
  | .txcrcr => writeTxcrcr v s
  | .i2scfgr => writeI2scfgr v s
  | .i2spr => writeI2spr v s

theorem dwRead_eq (off : Offset) (s : State) :
    dwRead off s =
      match Reg.ofOffset off with
      | some r => readReg r s
      | none => unhandledRead off .bits32 s := by
  unfold dwRead
  cases Reg.ofOffset off with
  | none => rfl
  | some r => cases r <;> rfl

theorem dwWrite_eq (off : Offset) (v : Word) (s : State) :
    dwWrite off v s =
      match Reg.ofOffset off with
      | some r => writeReg r v s
      | none => unhandledWrite off .bits32 v s := by
  unfold dwWrite
  cases Reg.ofOffset off with
  | none => rfl
  | some r => cases r <;> rfl

theorem effect_wideRead (off : Offset) (s : State) :
    effect (wideRead off) s = (dwRead off s).2.respond (.data32 (dwRead off s).1) := by
  unfold wideRead dwRead
  cases Reg.ofOffset off with
  | none => rfl
  | some r => cases r <;> rfl

theorem effect_wideWrite (off : Offset) (v : Word) (s : State) :
    effect (wideWrite off v) s = (dwWrite off v s).acknowledge := by
  unfold wideWrite dwWrite
  cases Reg.ofOffset off with
  | none => rfl
  | some r => cases r <;> rfl

/-- Everything a request can do to a ready block: read one register, write one register, miss every register with one
warning, or reset. The register, the value and the warning are the request's own, whatever the state. -/
inductive EffectShape (i : Instr) : Prop where
  | read (r : Reg) (width : Word → Response) (hr : readTarget i = some r) (hw : writeTarget i = none)
      (hi : i ≠ .reset) (he : ∀ s, effect i s = (readReg r s).2.respond (width (readReg r s).1))
  | write (r : Reg) (v : Word) (hr : readTarget i = none) (hw : writeTarget i = some r) (hi : i ≠ .reset)
      (he : ∀ s, effect i s = (writeReg r v s).acknowledge)
  | miss (k : DiagKind) (a : Response) (hr : readTarget i = none) (hw : writeTarget i = none) (hi : i ≠ .reset)
      (he : ∀ s, s.guard = .free → effect i s = (s.diag .warning k).respond a)
  | reset (hi : i = .reset) (hr : readTarget i = none) (hw : writeTarget i = none)
      (he : ∀ s, effect i s = (resetBlock s).acknowledge)

theorem EffectShape.of_dwRead {i : Instr} {off : Offset} {width : Word → Response}
    (hr : readTarget i = Reg.ofOffset off) (hw : writeTarget i = none) (hi : i ≠ .reset)
    (he : ∀ s, effect i s = (dwRead off s).2.respond (width (dwRead off s).1)) : EffectShape i := by
  cases h : Reg.ofOffset off with
  | some r => exact .read r width (hr.trans h) hw hi fun s => by rw [he, dwRead_eq, h]
  | none =>
    exact .miss (.unhandledRead off .bits32) (width 0#32) (hr.trans h) hw hi fun s _ => by
      rw [he, dwRead_eq, h]; rfl

theorem EffectShape.of_dwWrite {i : Instr} {off : Offset} {v : Word}
    (hr : readTarget i = none) (hw : writeTarget i = Reg.ofOffset off) (hi : i ≠ .reset)
    (he : ∀ s, effect i s = (dwWrite off v s).acknowledge) : EffectShape i := by
  cases h : Reg.ofOffset off with
  | some r => exact .write r v hr (hw.trans h) hi fun s => by rw [he, dwWrite_eq, h]
  | none =>
    exact .miss (.unhandledWrite off .bits32 v) .ack hr (hw.trans h) hi fun s hg => by
      rw [he, dwWrite_eq, h]; exact State.acknowledge_of_free hg

theorem effect_shape (i : Instr) : EffectShape i := by
  cases i with
  | rd16 off => exact .of_dwRead (width := fun v => .data16 (low16 v)) rfl rfl nofun fun _ => rfl
  | rd8Aligned off => exact .of_dwRead (width := fun v => .data8 (low8 v)) rfl rfl nofun fun _ => rfl
  | wr16 off d => exact .of_dwWrite rfl rfl nofun fun _ => rfl
  | wr8Aligned off d => exact .of_dwWrite rfl rfl nofun fun _ => rfl
  | rd32Cr1 | rd32Cr2 | rd32Sr | rd32Dr | rd32Crcpr | rd32Rxcrcr | rd32Txcrcr | rd32I2scfgr | rd32I2spr =>
    exact .read _ _ rfl rfl nofun fun _ => rfl
  | wr32Cr1 d | wr32Cr2 d | wr32Sr d | wr32Dr d | wr32Crcpr d | wr32Rxcrcr d | wr32Txcrcr d | wr32I2scfgr d
  | wr32I2spr d => exact .write _ d rfl rfl nofun fun _ => rfl
  | rd32Unbacked off => exact .miss (.unhandledRead off .bits32) (.data32 0#32) rfl rfl nofun fun _ _ => rfl
  | rd8Misaligned off => exact .miss (.unhandledRead off .bits8) (.data8 0#8) rfl rfl nofun fun _ _ => rfl
  | wr32Unbacked off d =>
    exact .miss (.unhandledWrite off .bits32 d) .ack rfl rfl nofun fun _ hg => State.acknowledge_of_free hg
  | wr8Misaligned off d =>
    exact .miss (.unhandledWrite off .bits8 (widen8 d)) .ack rfl rfl nofun fun _ hg => State.acknowledge_of_free hg
  | reset => exact .reset rfl rfl rfl fun _ => rfl

end Sys2Proof.Machine
end

