-- ==== Sys2Proof/Laws/PerInstr.lean ====
section
/-! SUPPORT. A fact of every constructor of `Instr`: the shape of the request it is issued as (30_encoding.md R70). -/

namespace Sys2Proof.Laws.RequestShape

/-- The request word has 14 bits, its kind is READ, WRITE or RESET, and it carries an operand exactly when the kind is
WRITE (R70). -/
def Statement (i : Instr) : Prop :=
  (encode i).word.toNat < 2 ^ 14 ∧ (encode i).kind ≠ 0b11#2 ∧
    ((encode i).data.isSome = true ↔ (encode i).kind = 0b01#2)

theorem read (z : AccessSize) (off : Offset) :
    (readRequest z off).word.toNat < 2 ^ 14 ∧ (readRequest z off).kind ≠ 0b11#2 ∧
      ((readRequest z off).data.isSome = true ↔ (readRequest z off).kind = 0b01#2) := by
  cases z <;> revert off <;> decide

theorem write_word (z : AccessSize) (off : Offset) (d : Nat) :
    (writeRequest z off d).word.toNat < 2 ^ 14 ∧ (writeRequest z off d).kind = 0b01#2 := by
  have h : (writeRequest z off d).word = (writeRequest z off 0).word := rfl
  have k : (writeRequest z off d).kind = (writeRequest z off 0).kind := rfl
  rw [h, k]
  clear h k
  cases z <;> revert off <;> decide

theorem write (z : AccessSize) (off : Offset) (d : Nat) :
    (writeRequest z off d).word.toNat < 2 ^ 14 ∧ (writeRequest z off d).kind ≠ 0b11#2 ∧
      ((writeRequest z off d).data.isSome = true ↔ (writeRequest z off d).kind = 0b01#2) := by
  obtain ⟨h, k⟩ := write_word z off d
  rw [k]
  exact ⟨h, by decide, iff_of_true rfl rfl⟩

theorem rd32Cr1 : Statement .rd32Cr1 := read _ _
theorem rd32Cr2 : Statement .rd32Cr2 := read _ _
theorem rd32Sr : Statement .rd32Sr := read _ _
theorem rd32Dr : Statement .rd32Dr := read _ _
theorem rd32Crcpr : Statement .rd32Crcpr := read _ _
theorem rd32Rxcrcr : Statement .rd32Rxcrcr := read _ _
theorem rd32Txcrcr : Statement .rd32Txcrcr := read _ _
theorem rd32I2scfgr : Statement .rd32I2scfgr := read _ _
theorem rd32I2spr : Statement .rd32I2spr := read _ _
theorem wr32Cr1 (d : Word) : Statement (.wr32Cr1 d) := write _ _ _
theorem wr32Cr2 (d : Word) : Statement (.wr32Cr2 d) := write _ _ _
theorem wr32Sr (d : Word) : Statement (.wr32Sr d) := write _ _ _
theorem wr32Dr (d : Word) : Statement (.wr32Dr d) := write _ _ _
theorem wr32Crcpr (d : Word) : Statement (.wr32Crcpr d) := write _ _ _
theorem wr32Rxcrcr (d : Word) : Statement (.wr32Rxcrcr d) := write _ _ _
theorem wr32Txcrcr (d : Word) : Statement (.wr32Txcrcr d) := write _ _ _
theorem wr32I2scfgr (d : Word) : Statement (.wr32I2scfgr d) := write _ _ _
theorem wr32I2spr (d : Word) : Statement (.wr32I2spr d) := write _ _ _
theorem rd32Unbacked (off : Offset) : Statement (.rd32Unbacked off) := read _ _
theorem wr32Unbacked (off : Offset) (d : Word) : Statement (.wr32Unbacked off d) := write _ _ _
theorem rd16 (off : Offset) : Statement (.rd16 off) := read _ _
theorem wr16 (off : Offset) (d : Half) : Statement (.wr16 off d) := write _ _ _
theorem rd8Aligned (off : Offset) : Statement (.rd8Aligned off) := read _ _
theorem rd8Misaligned (off : Offset) : Statement (.rd8Misaligned off) := read _ _
theorem wr8Aligned (off : Offset) (d : Byte) : Statement (.wr8Aligned off d) := write _ _ _
theorem wr8Misaligned (off : Offset) (d : Byte) : Statement (.wr8Misaligned off d) := write _ _ _
theorem reset : Statement .reset := ⟨by decide, by decide, by decide⟩

end Sys2Proof.Laws.RequestShape
end

