-- ==== Sys2Proof/Tests/Slice0.lean ====
section
/-! SUPPORT. Tests: the well-formedness checks, decoding, one request at a time, and a witness for the hypotheses of every
statement. Expected results are those of spec/95_test_vectors.md (its vector is named) or of the rule named. -/

open Sys2Proof Sys2Proof.Machine

namespace Sys2Proof.Tests

/-! ### Small states -/

/-- A block at construction: with a slave that gives these answers, and these CR1 and CR2 words, FIFO and levels. -/
def block (slave : SlavePort) (script : List SlaveAnswer) (c1 c2 : Word) (fifo : List Byte) (levels : Levels) : State :=
  { State.construct { Params.simulationDefault with slave := slave } with
    cr1 := Cr1.ofWord c1, cr2 := Cr2.ofWord c2, fifo := fifo, levels := levels, slaveScript := script }

/-- The levels IRQ/DMARX/DMATX in the order of 95_test_vectors.md. -/
def lv (irq dmarx dmatx : Bool) : Levels := { irq := irq, dmarx := dmarx, dmatx := dmatx }

/-- No slave, nothing set but the FIFO. -/
def alone (fifo : List Byte) : State := block .absent [] 0 0 fifo Levels.low

/-- A slave that answers one byte, CR2 and the FIFO given. -/
def answering (rx : Byte) (c2 : Word) (fifo : List Byte) : State := block .present [.byte rx] 0 c2 fifo Levels.low

/-- A slave that stalls. -/
def stalling : State := block .present [.stall] 0 0x02 [] (lv false false true)

/-- A block whose guard is held forever. -/
def stuckBlock : State := { State.reset with guard := .heldForever }

/-- A block with the given parameters. -/
def withParams (p : Params) : State := State.construct p

/-- What is seen of the next state. -/
def look (o : Host.Outcome State Fault Refusal) (f : State → α) : Option α :=
  match o with
  | .next t => some (f t)
  | .fault _ => none
  | .refused _ => none

/-- What is seen after the block has served one request word. -/
def after (s : State) (nbits w : Nat) (f : State → α) : Option α := look (step (s.withFetchWord nbits w)) f

/-- Responses and events. -/
def out (t : State) : List Response × List Event := (t.responses, t.events)

/-- FIFO and levels. -/
def inside (t : State) : List Byte × Levels := (t.fifo, t.levels)

/-! ### Well-formedness refuses (30_encoding.md R75) -/

theorem test_ill_formed_rd32_unbacked : (Instr.rd32Unbacked 0x00C#10).wellFormed = false := by decide
theorem test_ill_formed_wr32_unbacked : (Instr.wr32Unbacked 0x020#10 1#32).wellFormed = false := by decide
theorem test_ill_formed_rd8_aligned : (Instr.rd8Aligned 0x001#10).wellFormed = false := by decide
theorem test_ill_formed_rd8_misaligned : (Instr.rd8Misaligned 0x3FC#10).wellFormed = false := by decide
theorem test_ill_formed_wr8_aligned : (Instr.wr8Aligned 0x002#10 1#8).wellFormed = false := by decide
theorem test_ill_formed_wr8_misaligned : (Instr.wr8Misaligned 0x004#10 1#8).wellFormed = false := by decide

/-! ### Decoding: `kind[13:12] size[11:10] off[9:0]`, written out bit by bit from R70 and R75 -/

/-- A request with no operand. -/
def bare (w : BitVec 16) : Except Malformed Instr := decode { word := w, data := none }

/-- A request with an operand. -/
def carrying (w : BitVec 16) (d : Nat) : Except Malformed Instr := decode { word := w, data := some d }

theorem test_decode_rd32_registers :
    bare 0b00100000000000 = .ok .rd32Cr1 ∧ bare 0b00100000000100 = .ok .rd32Cr2 ∧
    bare 0b00100000001000 = .ok .rd32Sr ∧ bare 0b00100000001100 = .ok .rd32Dr ∧
    bare 0b00100000010000 = .ok .rd32Crcpr ∧ bare 0b00100000010100 = .ok .rd32Rxcrcr ∧
    bare 0b00100000011000 = .ok .rd32Txcrcr ∧ bare 0b00100000011100 = .ok .rd32I2scfgr ∧
    bare 0b00100000100000 = .ok .rd32I2spr := ⟨rfl, rfl, rfl, rfl, rfl, rfl, rfl, rfl, rfl⟩

theorem test_decode_wr32_registers :
    carrying 0b01100000000000 0x80000001 = .ok (.wr32Cr1 0x80000001#32) ∧
    carrying 0b01100000000100 0x43 = .ok (.wr32Cr2 0x43#32) ∧
    carrying 0b01100000001000 0xFFFFFFFF = .ok (.wr32Sr 0xFFFFFFFF#32) ∧
    carrying 0b01100000001100 0xFFFF1234 = .ok (.wr32Dr 0xFFFF1234#32) ∧
    carrying 0b01100000010000 7 = .ok (.wr32Crcpr 7#32) ∧
    carrying 0b01100000010100 0xDEAD = .ok (.wr32Rxcrcr 0xDEAD#32) ∧
    carrying 0b01100000011000 0 = .ok (.wr32Txcrcr 0#32) ∧
    carrying 0b01100000011100 0x400 = .ok (.wr32I2scfgr 0x400#32) ∧
    carrying 0b01100000100000 0x10A = .ok (.wr32I2spr 0x10A#32) := ⟨rfl, rfl, rfl, rfl, rfl, rfl, rfl, rfl, rfl⟩

theorem test_decode_unbacked_and_narrow :
    bare 0b00100000100100 = .ok (.rd32Unbacked 0x024#10) ∧ bare 0b00101111111111 = .ok (.rd32Unbacked 0x3FF#10) ∧
    carrying 0b01101111111100 0xFFFFFFFF = .ok (.wr32Unbacked 0x3FC#10 0xFFFFFFFF#32) ∧
    bare 0b00010000000011 = .ok (.rd16 0x003#10) ∧
    carrying 0b01010000001100 0x1234 = .ok (.wr16 0x00C#10 0x1234#16) ∧
    bare 0b00000000001100 = .ok (.rd8Aligned 0x00C#10) ∧ bare 0b00000000001101 = .ok (.rd8Misaligned 0x00D#10) ∧
    carrying 0b01000000000100 0xC0 = .ok (.wr8Aligned 0x004#10 0xC0#8) ∧
    carrying 0b01001111111111 0xFF = .ok (.wr8Misaligned 0x3FF#10 0xFF#8) ∧
    bare 0b10000000000000 = .ok .reset := ⟨rfl, rfl, rfl, rfl, rfl, rfl, rfl, rfl, rfl, rfl⟩

/-- R76: what is refused, and by which name. -/
theorem test_decode_refuses :
    bare 0b00110000000000 = .error .reservedSize ∧ carrying 0b01110000001100 0 = .error .reservedSize ∧
    bare 0b10000000000001 = .error .resetFieldsNonzero ∧ bare 0b10010000000000 = .error .resetFieldsNonzero ∧
    bare 0b11000000000000 = .error .reservedKind ∧ bare 0b11111111111111 = .error .reservedKind ∧
    bare 0b0100100000000000 = .error .wordTooWide ∧ bare 0b01000000001100 = .error .missingData ∧
    carrying 0b00100000001100 0 = .error .unexpectedData ∧ carrying 0b10000000000000 0 = .error .unexpectedData ∧
    carrying 0b01000000001100 0x100 = .error .dataTooWide ∧ carrying 0b01010000001100 0x10000 = .error .dataTooWide ∧
    carrying 0b01100000001100 0x100000000 = .error .dataTooWide :=
  ⟨rfl, rfl, rfl, rfl, rfl, rfl, rfl, rfl, rfl, rfl, rfl, rfl, rfl⟩

/-- R78: `WR32 CR2, 0x43` is encoded `0x1804 0x00000043`. -/
theorem test_assemble_wr32_cr2 :
    (AsmLine.wr .bits32 (.register .cr2) 0x43).assemble = some { word := 0x1804#16, data := some 0x43 } := by decide

/-! ### One request -/

/-- V43-2. -/
theorem test_rd32_cr1 : after (block .absent [] 0xFFFF 0 [] Levels.low) 16 0x0800 out = some ([.data32 0xFFFF#32], []) := by
  decide

/-- V43-1. -/
theorem test_wr32_cr1_tagged :
    after (alone []) 48 0xFFFFFFFF1800 out =
      some ([.ack], [.diag .debug (.inertWrite 0x00#10 0x0000FC00#32)]) := by decide

/-- V43-3. -/
theorem test_wr32_cr1_clears_spe :
    after (block .absent [] 0x44 0x80 [] (lv true false false)) 48 0x000000001800 (fun t => (t.events, t.levels)) =
      some ([.diag .warning .masterCleared, .lineOp .irq .deassert], Levels.low) := by decide

/-- V43-9. -/
theorem test_rd32_cr2 :
    after (block .absent [] 0 0x1FF7 [] (lv true false true)) 16 0x0804 out = some ([.data32 0x1FF7#32], []) := by decide

/-- V43-8. -/
theorem test_wr32_cr2_all_ones :
    after (alone []) 48 0xFFFFFFFF1804 (fun t => (t.cr2, t.events)) =
      some (Cr2.ofWord 0x1FF7, [.lineOp .dmatx .deassert, .lineOp .dmatx .assert, .lineOp .irq .assert]) := by decide

/-- V42-5. -/
theorem test_wr32_cr2_clears_txdmaen :
    after (block .absent [] 0 0x02 [] (lv false false true)) 48 0x000000001804 (fun t => (t.events, t.levels)) =
      some ([.lineOp .dmatx .deassert, .lineOp .irq .deassert], Levels.low) := by decide

/-- V43-11. -/
theorem test_rd32_sr : after (alone [0x07]) 16 0x0808 out = some ([.data32 3#32], []) := by decide

/-- R25: OVR (bit 6) is bit 4 of the tag parameter. -/
theorem test_rd32_sr_tag :
    after (withParams { Params.simulationDefault with rvSrTag := 0x10#7 }) 16 0x0808 out = some ([.data32 0x42#32], []) := by
  decide

/-- V43-12. -/
theorem test_wr32_sr :
    after (alone [0x07]) 48 0xFFFFFFFF1808 out =
      some ([.ack], [.diag .debug (.inertWrite 0x08#10 0x000001FC#32)]) := by decide

/-- V41-2. -/
theorem test_rd32_dr :
    after (block .absent [] 0 0x40 [0x5A, 0x11] Levels.low) 16 0x080C (fun t => (out t, inside t)) =
      some (([.data32 0x5A#32], [.lineOp .irq .deassert, .lineOp .dmatx .deassert, .lineOp .irq .assert]),
        ([0x11], lv true false false)) := by decide

/-- V41-1. -/
theorem test_rd32_dr_empty :
    after (block .absent [] 0 0x80 [] (lv true false false)) 16 0x080C (fun t => (out t, inside t)) =
      some (([.data32 0#32], [.lineOp .irq .deassert]), ([], Levels.low)) := by decide

/-- V41-7. -/
theorem test_wr32_dr_no_slave_full :
    after (alone [1, 2, 3, 4]) 48 0x00000055180C (fun t => (t.events, t.fifo)) =
      some ([.lineOp .irq .deassert, .diag .warning (.noSlave 0x0055#16)], [2, 3, 4, 0]) := by decide

/-- V41-8. -/
theorem test_wr32_dr_slave :
    after (answering 0x77 0x01 []) 48 0xFFFF1234180C (fun t => (t.events, inside t)) =
      some ([.lineOp .irq .deassert, .lineOp .dmatx .deassert, .xfer 0x34 0x77, .lineOp .dmarx .assert,
        .lineOp .dmarx .deassert, .lineOp .dmatx .deassert, .lineOp .irq .deassert], ([0x77], Levels.low)) := by decide

/-- V43-15. -/
theorem test_rd32_crcpr :
    after { alone [] with crcpr := 0x5678 } 16 0x0810 out = some ([.data32 0x5678#32], []) := by decide

/-- V43-14. -/
theorem test_wr32_crcpr :
    after (alone []) 48 0x123456781810 (fun t => (t.crcpr, t.events)) =
      some (0x5678#32, [.diag .debug (.inertWrite 0x10#10 0x12345678#32)]) := by decide

/-- V43-25. -/
theorem test_wr32_crcpr_mask :
    after (withParams { Params.simulationDefault with maskCrcpr := 0xFF#32 }) 48 0x000012341810 (fun t => t.crcpr) =
      some 0x34#32 := by decide

/-- R130 and R132: each reads its own constant. -/
theorem test_rd32_crc_constants :
    let s := withParams { Params.simulationDefault with rvRxcrcr := 0x11#32, rvTxcrcr := 0x22#32 }
    after s 16 0x0814 out = some ([.data32 0x11#32], []) ∧ after s 16 0x0818 out = some ([.data32 0x22#32], []) := by decide

/-- V43-16. -/
theorem test_wr32_rxcrcr :
    after (alone []) 48 0x0000DEAD1814 out =
      some ([.ack], [.diag .debug (.inertWrite 0x14#10 0x0000DEAD#32)]) := by decide

/-- The example of R133, and V43-18. -/
theorem test_wr32_txcrcr :
    after (alone []) 48 0x000000011818 out = some ([.ack], [.diag .debug (.inertWrite 0x18#10 1#32)]) ∧
    after (alone []) 48 0x000000001818 out = some ([.ack], []) := by decide

/-- V43-22. -/
theorem test_rd32_i2scfgr :
    after { alone [] with i2scfgr := 0x800 } 16 0x081C out = some ([.data32 0x800#32], []) := by decide

/-- V43-20. -/
theorem test_wr32_i2scfgr :
    after (alone []) 48 0x00000C00181C (fun t => (t.i2scfgr, t.events)) =
      some (0x800#32, [.diag .warning .i2sEnableSet, .diag .debug (.inertWrite 0x1C#10 0x800#32)]) := by decide

/-- V43-19. -/
theorem test_wr32_i2scfgr_enable_only :
    after (alone []) 48 0x00000400181C (fun t => (t.i2scfgr, t.events)) =
      some (0#32, [.diag .warning .i2sEnableSet]) := by decide

/-- V43-24. -/
theorem test_rd32_i2spr : after { alone [] with i2spr := 0x10A } 16 0x0820 out = some ([.data32 0x10A#32], []) := by
  decide

/-- V43-23. -/
theorem test_wr32_i2spr :
    after (alone []) 48 0x0000010A1820 (fun t => (t.i2spr, t.events)) =
      some (0x10A#32, [.diag .debug (.inertWrite 0x20#10 0x10A#32)]) := by decide

/-- V40-15. -/
theorem test_rd32_unbacked_inside_dr :
    after (alone [1]) 16 0x080D (fun t => (out t, t.fifo)) =
      some (([.data32 0#32], [.diag .warning (.unhandledRead 0x0D#10 .bits32)]), [1]) := by decide

/-- V40-16. -/
theorem test_wr32_unbacked :
    after (alone []) 48 0xFFFFFFFF1BFC out =
      some ([.ack], [.diag .warning (.unhandledWrite 0x3FC#10 .bits32 0xFFFFFFFF#32)]) := by decide

/-- V40-9. -/
theorem test_rd16 : after (block .absent [] 0 0x1F43 [] Levels.low) 16 0x0404 out = some ([.data16 0x1F43#16], []) := by
  decide

/-- V40-11. -/
theorem test_rd16_inside_dr :
    after (alone [1]) 16 0x040E (fun t => (out t, t.fifo)) =
      some (([.data16 0#16], [.diag .warning (.unhandledRead 0x0E#10 .bits32)]), [1]) := by decide

/-- V40-12. -/
theorem test_wr16_dr :
    after (answering 0x34 0 []) 32 0x1234140C (fun t => (t.events, t.fifo)) =
      some ([.lineOp .irq .deassert, .lineOp .dmatx .deassert, .xfer 0x34 0x34, .lineOp .dmatx .deassert,
        .lineOp .irq .deassert], [0x34]) := by decide

/-- V40-13. -/
theorem test_wr16_unbacked :
    after (alone []) 32 0x00AB140E out =
      some ([.ack], [.diag .warning (.unhandledWrite 0x0E#10 .bits32 0xAB#32)]) := by decide

/-- V40-3. -/
theorem test_rd8_dr :
    after (alone [0x5A]) 16 0x000C (fun t => (out t, t.fifo)) =
      some (([.data8 0x5A#8], [.lineOp .irq .deassert, .lineOp .dmatx .deassert, .lineOp .irq .deassert]), []) := by decide

/-- V40-17. -/
theorem test_rd8_unbacked :
    after (alone []) 16 0x03FC out = some ([.data8 0#8], [.diag .warning (.unhandledRead 0x3FC#10 .bits32)]) := by decide

/-- V40-4. -/
theorem test_rd8_misaligned :
    after (alone [0x5A]) 16 0x000D (fun t => (out t, t.fifo)) =
      some (([.data8 0#8], [.diag .warning (.unhandledRead 0x0D#10 .bits8)]), [0x5A]) := by decide

/-- V40-8. -/
theorem test_wr8_cr2_clears_vrf :
    after (block .absent [] 0 0x1F00 [] Levels.low) 24 0xC01004 (fun t => (t.cr2, t.events)) =
      some (Cr2.ofWord 0xC0, [.lineOp .dmatx .deassert, .lineOp .irq .assert]) := by decide

/-- V40-18. -/
theorem test_wr8_i2scfgr :
    after (alone []) 24 0xFF101C (fun t => (t.i2scfgr, t.events)) =
      some (0xFF#32, [.diag .debug (.inertWrite 0x1C#10 0xFF#32)]) := by decide

/-- V40-7. -/
theorem test_wr8_misaligned :
    after (alone []) 24 0xFF1001 out = some ([.ack], [.diag .warning (.unhandledWrite 0x01#10 .bits8 0xFF#32)]) := by decide

/-- V70-1. -/
theorem test_reset :
    after (block .absent [] 0x44 0xC3 [1, 2, 3] (lv true false true)) 16 0x2000
        (fun t => (t.events, inside t, t.cr1, t.cr2)) =
      some ([.lineOp .irq .deassert, .lineOp .dmarx .deassert, .lineOp .dmatx .deassert], ([], Levels.low),
        Cr1.zero, Cr2.zero) := by decide

/-- V41-10: a stalled exchange. -/
theorem test_wr32_dr_stall :
    look (exec (.wr32Dr 0x11#32) stalling) (fun t => (out t, t.guard)) =
      some (([], [.lineOp .irq .deassert, .lineOp .dmatx .deassert]), .heldForever) := by decide

/-- V70-4: RESET of a stuck block. -/
theorem test_reset_stuck : exec .reset stuckBlock = .fault .stuck := rfl

/-- R76 and R183 at the step. -/
theorem test_step_refuses :
    step State.reset = .refused .noRequest ∧
    step (State.reset.withFetchWord 16 0x3000) = .refused (.malformedRequest .reservedKind) := ⟨rfl, rfl⟩

/-- R5: the simulation defaults are the vectors' conventions. -/
theorem test_reset_state_ready : State.reset.Ready := by decide

/-! ### Witnesses: the hypotheses of every statement are met, clause by clause -/

/-- Ready blocks of every kind the witnesses use. -/
theorem witness_ready :
    (alone []).Ready ∧ (alone [1, 2, 3, 4]).Ready ∧ (answering 0x09 0x40 [1, 2, 3, 4]).Ready ∧ stalling.Ready ∧
    (block .absent [] 0x44 0x80 [] (lv true false false)).Ready ∧
    (withParams { Params.simulationDefault with cap := 1 }).Ready := by decide

theorem witness_DecodeEncodeRoundTrip :
    (Instr.rd32Unbacked 0x00D#10).wellFormed = true ∧ (Instr.wr32Unbacked 0x3FF#10 0xFFFFFFFF#32).wellFormed = true ∧
    (Instr.rd8Aligned 0x3FC#10).wellFormed = true ∧ (Instr.wr8Misaligned 0x3FF#10 0xFF#8).wellFormed = true ∧
    (Instr.wr16 0x3FF#10 0xFFFF#16).wellFormed = true ∧ Instr.reset.wellFormed = true := by decide

theorem witness_DecodedRequestReencodes :
    decode { word := 0x1BFF#16, data := some 0xFFFFFFFF } = .ok (.wr32Unbacked 0x3FF#10 0xFFFFFFFF#32) := rfl

/-- Each way to be accepted, at the widest operand, and the first operand too wide. -/
theorem witness_DecoderAcceptsServedRequestsOnly :
    bare 0x0BFF = .ok (.rd32Unbacked 0x3FF#10) ∧ carrying 0x13FF 0xFF = .ok (.wr8Misaligned 0x3FF#10 0xFF#8) ∧
    carrying 0x17FF 0xFFFF = .ok (.wr16 0x3FF#10 0xFFFF#16) ∧
    carrying 0x1BFF 0xFFFFFFFF = .ok (.wr32Unbacked 0x3FF#10 0xFFFFFFFF#32) ∧ bare 0x2000 = .ok .reset ∧
    carrying 0x13FF 0x100 = .error .dataTooWide := ⟨rfl, rfl, rfl, rfl, rfl, rfl⟩

theorem witness_AssembledLinesDecode :
    (AsmLine.rd .bits8 (.number 0x3FF)).assemble = some { word := 0x03FF#16, data := none } ∧
    (0x3FF < 0x400 ∧ (AsmLine.rd .bits8 (.number 0x400)).assemble = none) ∧
    (2 ^ AccessSize.bits8.bits ≤ 0x100 ∧ (AsmLine.wr .bits8 (.register .dr) 0x100).assemble = none) ∧
    (0x3FF ≤ 0x3FF ∧ 0xFF < 2 ^ AccessSize.bits8.bits ∧
      (AsmLine.wr .bits8 (.number 0x3FF) 0xFF).assemble = some { word := 0x13FF#16, data := some 0xFF }) ∧
    AsmLine.reset.assemble = some { word := 0x2000#16, data := none } := by decide

/-- One address below the window, its first and last, and one above it. -/
theorem witness_WindowOffsets :
    windowOffset 0x4000 0x3FFF = none ∧ windowOffset 0x4000 0x4000 = some 0x000#10 ∧
    windowOffset 0x4000 0x43FF = some 0x3FF#10 ∧ windowOffset 0x4000 0x4400 = none := by decide

theorem witness_StepRunsDecodedRequest :
    (State.reset.withFetchWord 16 0x0800).pending = [{ word := 0x0800#16, data := none }] ∧
    decode { word := 0x0800#16, data := none } = .ok .rd32Cr1 ∧
    (State.reset.withFetchWord 16 0x3000).pending = [{ word := 0x3000#16, data := none }] ∧
    decode { word := 0x3000#16, data := none } = .error .reservedKind ∧
    State.reset.pending = [] ∧ decodeTableWord 16 0x0800 = some .rd32Cr1 :=
  ⟨by decide, rfl, by decide, rfl, rfl, by decide⟩

theorem witness_RunServesRequestsInArrivalOrder :
    (∀ i ∈ [Instr.wr32Cr1 0x44#32, .wr8Aligned 0x00C#10 0x3C#8, .rd32Dr, .reset], i.wellFormed = true) ∧
    (alone []).pending = [] := by decide

/-- Each constraint of R6 broken alone; the others hold. -/
theorem witness_BadConfigurationIsRefused :
    let p := Params.simulationDefault
    (withParams { p with cap := 0 }).params.cap = 0 ∧
    (withParams { p with rvCrcpr := 0x10000#32 }).params.rvCrcpr &&& ~~~p.maskCrcpr ≠ 0#32 ∧
    (withParams { p with rvI2scfgr := 0x10000#32 }).params.rvI2scfgr &&& ~~~p.maskI2scfgr ≠ 0#32 ∧
    (withParams { p with rvI2spr := 0x10000#32 }).params.rvI2spr &&& ~~~p.maskI2spr ≠ 0#32 ∧
    (withParams { p with maskI2scfgr := 0xFFFF#32 }).params.maskI2scfgr.getLsbD 10 = true ∧
    (withParams { p with maskI2scfgr := 0xFFFF#32, rvI2scfgr := 0x400#32 }).params.rvI2scfgr.getLsbD 10 = true := by decide

theorem witness_StuckBlockServesNothing : stuckBlock.params.Valid ∧ stuckBlock.guard = .heldForever := by decide

/-- The next state of a request that has one. -/
def nextOf (i : Instr) (s : State) : State :=
  match exec i s with
  | .next t => t
  | .fault _ => s
  | .refused _ => s

/-- Both ends of a request: answered, and stalled. -/
theorem witness_EveryRequestIsAnswered :
    (alone []).Ready ∧ (nextOf (.rd16 0x00E#10) (alone [])).responses = [.data16 0#16] ∧
    (nextOf (.rd16 0x00E#10) (alone [])).guard = .free ∧
    stalling.Ready ∧ (nextOf (.wr32Dr 0x11#32) stalling).guard = .heldForever ∧
    (nextOf (.wr32Dr 0x11#32) stalling).responses = [] := by decide

theorem witness_RequestsKeepParametersAndHistory :
    exec .reset (alone [1]) = .next (nextOf .reset (alone [1])) ∧
    exec (.wr32Dr 0x11#32) stalling = .next (nextOf (.wr32Dr 0x11#32) stalling) := ⟨rfl, rfl⟩

/-- At a backed offset with a side effect, at an unbacked one, and at the last aligned offset. -/
theorem witness_AlignedByteReadDelegates :
    (alone [0x5A]).Ready ∧ (0x00C#10).extractLsb' 0 2 = 0#2 ∧ (0x024#10).extractLsb' 0 2 = 0#2 ∧
    (0x3FC#10).extractLsb' 0 2 = 0#2 ∧ wideRead 0x00C#10 = .rd32Dr ∧ wideRead 0x3FC#10 = .rd32Unbacked 0x3FC#10 := by
  decide

theorem witness_HalfReadDelegates :
    (alone [0x5A]).Ready ∧ wideRead 0x00C#10 = .rd32Dr ∧ wideRead 0x00E#10 = .rd32Unbacked 0x00E#10 := by decide

theorem witness_NarrowWritesDelegateZeroExtended :
    (answering 0x34 0 []).Ready ∧ (0x00C#10).extractLsb' 0 2 = 0#2 ∧
    wideWrite 0x00C#10 (0#24 ++ 0xFF#8) = .wr32Dr 0xFF#32 ∧
    wideWrite 0x3FF#10 (0#16 ++ 0xFFFF#16) = .wr32Unbacked 0x3FF#10 0xFFFF#32 := by decide

theorem witness_MisalignedByteReadOnlyWarns :
    (alone []).Ready ∧ (0x001#10).extractLsb' 0 2 ≠ 0#2 ∧ (0x3FF#10).extractLsb' 0 2 ≠ 0#2 := by decide

theorem witness_MisalignedByteWriteOnlyWarns :
    (alone []).Ready ∧ (0x001#10).extractLsb' 0 2 ≠ 0#2 ∧ (0x3FF#10).extractLsb' 0 2 ≠ 0#2 := by decide

/-- The first and last unbacked offsets. -/
theorem witness_UnbackedReadOnlyWarns :
    (alone []).Ready ∧ ∀ off ∈ [0x001#10, 0x3FF#10],
      off ∉ [0x00#10, 0x04#10, 0x08#10, 0x0C#10, 0x10#10, 0x14#10, 0x18#10, 0x1C#10, 0x20#10] := by decide

theorem witness_UnbackedWriteOnlyWarns :
    (alone []).Ready ∧ ∀ off ∈ [0x021#10, 0x3FF#10],
      off ∉ [0x00#10, 0x04#10, 0x08#10, 0x0C#10, 0x10#10, 0x14#10, 0x18#10, 0x1C#10, 0x20#10] := by decide

/-- Both ends of the range, in a block with a byte to lose. -/
theorem witness_AccessesInsideDrTransferNothing :
    (alone [0x5A]).Ready ∧ (0x0D#10 ≤ 0x0D#10 ∧ 0x0D#10 ≤ 0x0F#10) ∧ (0x0D#10 ≤ 0x0F#10 ∧ 0x0F#10 ≤ 0x0F#10) := by decide

/-- Empty, one byte, and full. -/
theorem witness_DataReadTakesOldestByte :
    ((alone []).Ready ∧ (alone []).fifo = []) ∧ ((alone [0]).Ready ∧ (alone [0]).fifo = 0 :: []) ∧
    ((alone [1, 2, 3, 4]).Ready ∧ (alone [1, 2, 3, 4]).fifo = 1 :: [2, 3, 4]) := by decide

/-- Below capacity and at capacity. -/
theorem witness_DataWriteWithoutSlaveEnqueuesZero :
    ((alone []).Ready ∧ (alone []).params.slave = .absent ∧ (alone []).fifo.length ≠ (alone []).params.cap) ∧
    ((alone [1, 2, 3, 4]).Ready ∧ (alone [1, 2, 3, 4]).params.slave = .absent ∧
      (alone [1, 2, 3, 4]).fifo.length = (alone [1, 2, 3, 4]).params.cap) := by decide

/-- A byte answered, to an empty and to a full FIFO, with RXDMAEN clear and set; and a stall. -/
theorem witness_DataWriteWithSlaveExchanges :
    ((answering 0x77 0x01 []).Ready ∧ (answering 0x77 0x01 []).params.slave = .present ∧
      (answering 0x77 0x01 []).slaveAnswer 0x34#8 = .byte 0x77#8 ∧ (answering 0x77 0x01 []).cr2.rxdmaen = true) ∧
    ((answering 0x09 0x40 [1, 2, 3, 4]).Ready ∧ (answering 0x09 0x40 [1, 2, 3, 4]).slaveAnswer 0#8 = .byte 0x09#8 ∧
      (answering 0x09 0x40 [1, 2, 3, 4]).fifo.length = (answering 0x09 0x40 [1, 2, 3, 4]).params.cap ∧
      (answering 0x09 0x40 [1, 2, 3, 4]).cr2.rxdmaen = false) ∧
    (stalling.Ready ∧ stalling.params.slave = .present ∧ stalling.slaveAnswer 0x11#8 = .stall) := by decide

/-- Two operands that differ above the low byte; a slave write that completes; a DR read. -/
theorem witness_OnlyTheLowByteIsTransferred :
    ((answering 0x77 0x01 []).Ready ∧ (answering 0x77 0x01 []).params.slave = .present ∧
      (0xFFFF1234#32).extractLsb' 0 8 = (0x34#32).extractLsb' 0 8) ∧
    (nextOf (.wr32Dr 0xFFFF1234#32) (answering 0x77 0x01 [])).guard = .free ∧ (alone [0xFF]).Ready := by decide

/-- A DR read and a DR write through narrow requests, and a write that does warn. -/
theorem witness_DataPathOnlyWarnsOfNoSlave :
    (alone []).Ready ∧ readTarget (.rd8Aligned 0x00C#10) = some .dr ∧ writeTarget (.wr16 0x00C#10 0x55#16) = some .dr ∧
    Event.diag .warning (.noSlave 0x55#16) ∈ (nextOf (.wr16 0x00C#10 0x55#16) (alone [])).events := by decide

/-- Fewer writes than the capacity, and more. -/
theorem witness_WritesWithoutSlaveFillWithZeros :
    (alone []).Ready ∧ (alone []).params.slave = .absent ∧ (alone []).fifo = [] ∧
    min [1#32].length (alone []).params.cap = 1 ∧
    min [1#32, 2#32, 3#32, 4#32, 5#32].length (alone []).params.cap = 4 := by decide

theorem witness_WritesWithSlaveKeepTheLastBytes :
    let s := block .present [.byte 1, .byte 2, .stall] 0 0 [] Levels.low
    s.Ready ∧ s.params.slave = .present ∧ s.fifo = [] ∧ [0xA#32, 0xB#32].length = [1#8, 2#8].length ∧
    s.slaveScript = [1#8, 2#8].map SlaveAnswer.byte ++ [.stall] := by decide

theorem witness_ReadsReturnBytesInOrder : (alone []).Ready ∧ (alone [1, 2, 3, 4]).Ready := by decide

/-- Empty, one short of full, and full. -/
theorem witness_EnqueueEvictsTheOldest :
    (alone []).params.Valid ∧ (alone []).fifo.length ≤ (alone []).params.cap ∧
    (alone [1, 2, 3]).fifo.length < (alone [1, 2, 3]).params.cap ∧
    (alone [1, 2, 3, 4]).fifo.length = (alone [1, 2, 3, 4]).params.cap := by decide

theorem witness_DequeueTakesTheOldest :
    (alone []).fifo = [] ∧ (alone [1, 2]).fifo = 1 :: [2] ∧ (alone [1, 2, 3]).fifo.length < (alone [1, 2, 3]).params.cap := by
  decide

theorem witness_PulseAssertsThenDeasserts : Line.irq ≠ .dmarx ∧ Line.dmatx ≠ .dmarx := by decide

/-- A dequeuing read, a slave write and a CR2 write reconcile; an empty read does not. -/
theorem witness_OnlyReconcileAssertsLines :
    (reconciles .rd32Dr (alone [1]) ∧ exec .rd32Dr (alone [1]) = .next (nextOf .rd32Dr (alone [1])) ∧
      (nextOf .rd32Dr (alone [1])).guard = .free) ∧
    (reconciles (.wr8Aligned 0x00C#10 1#8) (answering 7 0 []) ∧
      (nextOf (.wr8Aligned 0x00C#10 1#8) (answering 7 0 [])).guard = .free) ∧
    reconciles (.wr16 0x004#10 0x80#16) (alone []) ∧
    (¬ reconciles .rd32Dr (alone []) ∧ exec .rd32Dr (alone []) = .next (nextOf .rd32Dr (alone [])) ∧
      (nextOf .rd32Dr (alone [])).guard = .free) := by
  refine ⟨⟨.inl (by decide), rfl, by decide⟩, ⟨.inr (.inl (by decide)), by decide⟩, .inr (.inr (by decide)), ?_, rfl,
    by decide⟩
  rintro (⟨-, h⟩ | ⟨h, -⟩ | h)
  · exact h rfl
  · exact absurd h (by decide)
  · exact absurd h (by decide)

/-- With both interrupt enables set, after a read of DR that swallowed the interrupt. -/
theorem witness_IrqStaysLowUntilReconcile :
    let s := block .absent [] 0x44 0xC0 [] Levels.low
    s.Ready ∧ s.fifo = [] ∧ s.levels.irq = false ∧
    ∀ i ∈ [Instr.rd32Dr, .wr32Cr1 0x44#32, .reset], writeTarget i ≠ some .cr2 ∧ writeTarget i ≠ some .dr := by decide

theorem witness_SlaveWriteRefreshesDmatx :
    let s := block .present [.byte 0x10] 0x44 0x83 [] (lv true false true)
    let i := Instr.wr8Aligned 0x00C#10 0x10#8
    s.params.slave = .present ∧ s.cr2.txdmaen = true ∧ s.levels.dmatx = true ∧ writeTarget i = some .dr ∧
    exec i s = .next (nextOf i s) ∧ (nextOf i s).guard = .free :=
  ⟨rfl, by decide, rfl, by decide, rfl, by decide⟩

theorem witness_Control1ReadsItsFields : (block .absent [] 0xFFFF 0 [] Levels.low).Ready := by decide
theorem witness_Control2ReadsItsFields : (block .absent [] 0 0x1FF7 [] Levels.low).Ready := by decide

/-- RXNE at 0 and at 1. -/
theorem witness_StatusReadsComputedFlags :
    ((alone []).Ready ∧ ¬ 0 < (alone []).fifo.length) ∧ ((alone [0]).Ready ∧ 0 < (alone [0]).fifo.length) := by decide

theorem witness_CrcResultRegistersReadConstants :
    (withParams { Params.simulationDefault with rvRxcrcr := 0x11#32, rvTxcrcr := 0x22#32 }).Ready ∧
    exec (.wr32Rxcrcr 1#32) (alone []) = .next (nextOf (.wr32Rxcrcr 1#32) (alone [])) := ⟨by decide, rfl⟩

theorem witness_InertRegistersReadStoredValues :
    State.Ready { alone [] with crcpr := 1#32, i2scfgr := 2#32, i2spr := 3#32 } := by decide

/-- SPE going from 1 to 0, and SPE already 0. -/
theorem witness_Control1WriteStoresAndWarns :
    ((block .absent [] 0x44 0x80 [] (lv true false false)).Ready ∧
      (block .absent [] 0x44 0x80 [] (lv true false false)).cr1.spe = true) ∧
    ((alone []).Ready ∧ (alone []).cr1.spe = false) := by decide

theorem witness_Control2WriteStoresAndReconciles :
    (alone [1]).Ready ∧ (block .absent [] 0 0x02 [] (lv false false true)).Ready := by decide

theorem witness_ReadOnlyRegistersIgnoreWrites : (alone [7]).Ready := by decide

theorem witness_InertRegistersStoreWithinTheirMasks :
    (withParams { Params.simulationDefault with maskCrcpr := 0xFF#32 }).Ready := by decide

theorem witness_WrittenRegistersReadBack : (alone []).Ready := by decide
theorem witness_NarrowWritesClearUpperBits : (block .absent [] 0x34C 0x1F43 [] Levels.low).Ready := by decide

theorem witness_ResetRestoresConstructionValues :
    (block .absent [] 0xFFFF 0x1FF7 [1, 2, 3] (lv true false true)).Ready := by decide

/-- A read of every width. -/
theorem witness_ReadsAfterResetMatchConstruction :
    (block .absent [] 0xFFFF 0x1FF7 [1, 2, 3] (lv true false true)).Ready ∧
    ∀ i ∈ [Instr.rd32Dr, .rd16 0x000#10, .rd8Aligned 0x00C#10], (encode i).kind = 0b00#2 := by decide

theorem witness_ConstructionMeetsInvariant : Params.simulationDefault.Valid := by decide

/-- The invariant holds of the state after a CR2 write, and a DR write steps from there. -/
theorem witness_StepKeepsInvariant :
    let s : State :=
      { block .present [.byte 5] 0 0x43 [] (lv false false true) with
        events := [.lineOp .dmatx .deassert, .lineOp .dmatx .assert, .lineOp .irq .deassert]
        pending := [{ word := 0x180C#16, data := some 0xAB }] }
    s.Inv ∧ ∃ t, step s = .next t ∧ t.fifo = [5] :=
  ⟨⟨by decide, by decide, by decide, by decide, by decide, by decide, by decide, by decide, by decide⟩, _, rfl, rfl⟩

/-- Each of the three operations that change the FIFO. -/
theorem witness_OnlyDataPathAndResetChangeFifo :
    (alone [1]).Ready ∧ (alone [1]).fifo.length ≤ (alone [1]).params.cap ∧
    (exec .rd32Dr (alone [1]) = .next (nextOf .rd32Dr (alone [1])) ∧ (nextOf .rd32Dr (alone [1])).fifo ≠ [1]) ∧
    (exec (.wr32Dr 1#32) (alone [1]) = .next (nextOf (.wr32Dr 1#32) (alone [1])) ∧
      (nextOf (.wr32Dr 1#32) (alone [1])).fifo ≠ [1]) ∧
    (exec .reset (alone [1]) = .next (nextOf .reset (alone [1])) ∧ (nextOf .reset (alone [1])).fifo ≠ [1]) :=
  ⟨by decide, by decide, ⟨rfl, by decide⟩, ⟨rfl, by decide⟩, rfl, by decide⟩

/-- Each stored register, and the guard, changed by its own write. -/
theorem witness_RegistersChangeOnlyByTheirWrites :
    (nextOf (.wr32Cr1 0x44#32) (alone [])).cr1 ≠ (alone []).cr1 ∧
    (nextOf (.wr32Cr2 0x80#32) (alone [])).cr2 ≠ (alone []).cr2 ∧
    (nextOf (.wr32Crcpr 7#32) (alone [])).crcpr ≠ (alone []).crcpr ∧
    (nextOf (.wr32I2scfgr 1#32) (alone [])).i2scfgr ≠ (alone []).i2scfgr ∧
    (nextOf (.wr32I2spr 2#32) (alone [])).i2spr ≠ (alone []).i2spr ∧
    (nextOf (.wr32Dr 1#32) stalling).guard ≠ stalling.guard := by decide

/-- CR1 with every field but SPE changed, over a request that reads CR1 and one that does not. -/
theorem witness_InertControl1FieldsChangeNothing :
    (Cr1.ofWord 0xFFBF).spe = (alone [1]).cr1.spe ∧ readTarget .rd32Cr1 = some .cr1 ∧ readTarget .rd32Dr ≠ some .cr1 ∧
    exec .rd32Dr (alone [1]) = .next (nextOf .rd32Dr (alone [1])) := ⟨by decide, by decide, by decide, rfl⟩

end Sys2Proof.Tests
end

section
/-! PROOFS. The receive FIFO (10_state.md R32 to R34): what its two operations do, and which requests change it. -/

namespace Sys2Proof.Machine

/-! ### Enqueue and Dequeue (R33, R34) -/

theorem fifoPush_of_not_full {cap : Nat} {fifo : List Byte} (h : fifo.length ≠ cap) (b : Byte) :
    fifoPush cap fifo b = fifo ++ [b] := by
  simp [fifoPush, h]

theorem fifoPush_of_full {cap : Nat} {fifo : List Byte} (h : fifo.length = cap) (b : Byte) :
    fifoPush cap fifo b = fifo.tail ++ [b] := by
  simp [fifoPush, h]

@[simp] theorem getLast?_fifoPush (cap : Nat) (fifo : List Byte) (b : Byte) :
    (fifoPush cap fifo b).getLast? = some b := by
  simp [fifoPush]

theorem State.dequeue_of_nil {s : State} (h : s.fifo = []) : s.dequeue = (none, s) := by
  simp [State.dequeue, h]

theorem State.dequeue_of_cons {s : State} {b : Byte} {rest : List Byte} (h : s.fifo = b :: rest) :
    s.dequeue = (some b, { s with fifo := rest }) := by
  simp [State.dequeue, h]

/-! ### The FIFO and the parameters under the shared operations -/

@[simp] theorem State.acknowledge_fifo (s : State) : s.acknowledge.fifo = s.fifo := by
  cases h : s.guard with
  | free => rw [State.acknowledge_of_free h, State.respond_fifo]
  | heldForever => rw [State.acknowledge_of_held h]

@[simp] theorem State.acknowledge_params (s : State) : s.acknowledge.params = s.params := by
  cases h : s.guard with
  | free => rw [State.acknowledge_of_free h, State.respond_params]
  | heldForever => rw [State.acknowledge_of_held h]

@[simp] theorem State.inertDiag_fifo (r : Reg) (v : Word) (s : State) : (s.inertDiag r v).fifo = s.fifo := by
  rw [State.inertDiag_eq]

@[simp] theorem State.inertDiag_params (r : Reg) (v : Word) (s : State) : (s.inertDiag r v).params = s.params := by
  rw [State.inertDiag_eq]

@[simp] theorem State.reconcile_fifo (s : State) : s.reconcile.fifo = s.fifo := by
  rw [State.reconcile_eq]

@[simp] theorem State.reconcile_params (s : State) : s.reconcile.params = s.params := by
  rw [State.reconcile_eq]

@[simp] theorem warnMasterCleared_fifo (v : Word) (s : State) : (warnMasterCleared v s).fifo = s.fifo := by
  unfold warnMasterCleared
  split <;> simp

@[simp] theorem warnMasterCleared_params (v : Word) (s : State) : (warnMasterCleared v s).params = s.params := by
  unfold warnMasterCleared
  split <;> simp

@[simp] theorem deassertOnSpeClear_fifo (old : Bool) (v : Word) (s : State) :
    (deassertOnSpeClear old v s).fifo = s.fifo := by
  unfold deassertOnSpeClear
  split <;> simp

@[simp] theorem deassertOnSpeClear_params (old : Bool) (v : Word) (s : State) :
    (deassertOnSpeClear old v s).params = s.params := by
  unfold deassertOnSpeClear
  split <;> simp

@[simp] theorem warnI2sEnable_fifo (v : Word) (s : State) : (warnI2sEnable v s).fifo = s.fifo := by
  unfold warnI2sEnable
  split <;> simp

@[simp] theorem warnI2sEnable_params (v : Word) (s : State) : (warnI2sEnable v s).params = s.params := by
  unfold warnI2sEnable
  split <;> simp

@[simp] theorem resetBlock_fifo (s : State) : (resetBlock s).fifo = [] := by simp [resetBlock]

@[simp] theorem resetBlock_params (s : State) : (resetBlock s).params = s.params := by simp [resetBlock]

/-! ### Reading and writing a register -/

theorem readReg_state_of_ne_dr {r : Reg} (h : r ≠ .dr) (s : State) : (readReg r s).2 = s := by
  cases r with
  | dr => exact absurd rfl h
  | cr1 | cr2 | sr | crcpr | rxcrcr | txcrcr | i2scfgr | i2spr => rfl

@[simp] theorem readReg_params (r : Reg) (s : State) : (readReg r s).2.params = s.params := by
  by_cases h : r = .dr
  · subst h
    exact readDr_params s
  · rw [readReg_state_of_ne_dr h]

theorem writeReg_fifo_of_ne_dr {r : Reg} (h : r ≠ .dr) (v : Word) (s : State) : (writeReg r v s).fifo = s.fifo := by
  cases r with
  | dr => exact absurd rfl h
  | cr1 => simp [writeReg, writeCr1]
  | cr2 => simp [writeReg, writeCr2]
  | sr => exact State.inertDiag_fifo ..
  | crcpr => exact State.inertDiag_fifo ..
  | rxcrcr => exact State.inertDiag_fifo ..
  | txcrcr => exact State.inertDiag_fifo ..
  | i2scfgr => simp [writeReg, writeI2scfgr]
  | i2spr => exact State.inertDiag_fifo ..

@[simp] theorem writeReg_params (r : Reg) (v : Word) (s : State) : (writeReg r v s).params = s.params := by
  cases r with
  | dr => exact writeDr_params v s
  | cr1 => simp [writeReg, writeCr1]
  | cr2 => simp [writeReg, writeCr2]
  | sr => exact State.inertDiag_params ..
  | crcpr => exact State.inertDiag_params ..
  | rxcrcr => exact State.inertDiag_params ..
  | txcrcr => exact State.inertDiag_params ..
  | i2scfgr => simp [writeReg, writeI2scfgr]
  | i2spr => exact State.inertDiag_params ..

/-- A DR read takes at most the oldest byte (R100). -/
theorem readDr_fifo (s : State) : (readDr s).2.fifo = s.fifo.tail := by
  cases h : s.fifo with
  | nil => simp [readDr_empty h, h]
  | cons b rest => simp [readDr_cons h]

/-- A DR write enqueues one byte, unless its exchange stalls (R102, R103). -/
theorem writeDr_fifo (v : Word) (s : State) :
    (writeDr v s).fifo = s.fifo ∨ ∃ b, (writeDr v s).fifo = fifoPush s.params.cap s.fifo b := by
  rcases writeDr_cases v s with ⟨-, h⟩ | ⟨-, rx, h⟩ | ⟨-, h⟩
  · exact .inr ⟨0x00#8, by simp [h, noSlaveWrite]⟩
  · exact .inr ⟨rx, by simp [h, slaveReturned_eq, beforeExchange]⟩
  · exact .inl (by simp [h, beforeExchange])

/-! ### Requests -/

/-- No request changes a parameter (R5). -/
theorem exec_params {i : Instr} {s t : State} (h : exec i s = .next t) : t.params = s.params := by
  obtain ⟨hs, rfl⟩ := exec_next h
  cases effect_shape i with
  | read r width _ _ _ he => simp [he]
  | write r v _ _ _ he => simp [he]
  | miss k a _ _ _ he => simp [he s hs.2]
  | reset _ _ _ he => simp [he]

/-- All that a request can do to the FIFO: nothing, or one of the three operations of R32. -/
theorem exec_fifo_cases {i : Instr} {s t : State} (h : exec i s = .next t) :
    t.fifo = s.fifo ∨
    (readTarget i = some .dr ∧ t.fifo = s.fifo.tail) ∨
    (writeTarget i = some .dr ∧ ∃ b, t.fifo = fifoPush s.params.cap s.fifo b) ∨
    (i = .reset ∧ t.fifo = []) := by
  obtain ⟨hs, rfl⟩ := exec_next h
  cases effect_shape i with
  | read r width hr _ _ he =>
    by_cases hd : r = .dr
    · subst hd
      exact .inr (.inl ⟨hr, by rw [he, State.respond_fifo]; exact readDr_fifo s⟩)
    · exact .inl (by rw [he, State.respond_fifo, readReg_state_of_ne_dr hd])
  | write r v _ hw _ he =>
    rw [he, State.acknowledge_fifo]
    by_cases hd : r = .dr
    · subst hd
      exact (writeDr_fifo v s).imp_right fun hb => .inr (.inl ⟨hw, hb⟩)
    · exact .inl (writeReg_fifo_of_ne_dr hd v s)
  | miss k a _ _ _ he => exact .inl (by simp [he s hs.2])
  | reset hi _ _ he => exact .inr (.inr (.inr ⟨hi, by simp [he]⟩))

/-- RESET empties the FIFO of a ready block (R32, R170). -/
theorem exec_reset_empties_fifo {s : State} (h : s.Ready) : ∃ t, exec .reset s = .next t ∧ t.fifo = [] :=
  ⟨_, exec_of_ready h .reset, by simp [effect]⟩

theorem exec_target_of_fifo_ne {i : Instr} {s t : State} (h : exec i s = .next t) (hne : t.fifo ≠ s.fifo) :
    readTarget i = some .dr ∨ writeTarget i = some .dr ∨ i = .reset := by
  rcases exec_fifo_cases h with hf | ⟨hr, -⟩ | ⟨hw, -⟩ | ⟨hi, -⟩
  · exact absurd hf hne
  · exact .inl hr
  · exact .inr (.inl hw)
  · exact .inr (.inr hi)

/-- A FIFO within the capacity stays within it: a dequeue shortens it, and an enqueue evicts when it is full. -/
theorem exec_fifo_length_le {i : Instr} {s t : State} (hl : s.fifo.length ≤ s.params.cap)
    (h : exec i s = .next t) : t.fifo.length ≤ s.params.cap := by
  have hcap : 1 ≤ s.params.cap := (exec_next h).1.1.1
  rcases exec_fifo_cases h with hf | ⟨-, hf⟩ | ⟨-, b, hf⟩ | ⟨-, hf⟩
  · rwa [hf]
  · rw [hf, List.length_tail]
    omega
  · rw [hf, length_fifoPush hcap hl]
    exact Nat.min_le_right ..
  · simp [hf]

/-! ### The obligations -/

/-- Settles O53: `exec_fifo_cases` says what a request can do to the FIFO; each clause reads off it. -/
theorem onlyDataPathAndResetChangeFifo : Obligations.OnlyDataPathAndResetChangeFifo := by
  unfold Obligations.OnlyDataPathAndResetChangeFifo
  refine ⟨fun _ => rfl, fun _ => exec_reset_empties_fifo, fun _ _ _ => exec_target_of_fifo_ne, fun _ _ _ hl h => ?_⟩
  rw [exec_params h]
  exact ⟨exec_fifo_length_le hl h, rfl⟩

/-- Settles O29: what `fifoPush` does below capacity, at capacity and in either case. -/
theorem enqueueEvictsTheOldest : Obligations.EnqueueEvictsTheOldest := by
  unfold Obligations.EnqueueEvictsTheOldest
  intro s b hv hl
  have hlen : (s.enqueue b).fifo.length = min (s.fifo.length + 1) s.params.cap := length_fifoPush hv.1 hl b
  have hcap : 1 ≤ s.params.cap := hv.1
  exact ⟨rfl, fun h => fifoPush_of_not_full h.ne b, fun h => fifoPush_of_full h b, by omega, by omega,
    getLast?_fifoPush ..⟩

/-- Settles O30: a byte enqueued with room left goes behind the bytes that are there, so the same byte leaves first. -/
theorem dequeueTakesTheOldest : Obligations.DequeueTakesTheOldest := by
  unfold Obligations.DequeueTakesTheOldest
  refine fun s => ⟨State.dequeue_of_nil, fun b rest h => ⟨State.dequeue_of_cons h, fun later hroom => ?_⟩⟩
  have hlater : (s.enqueue later).fifo = b :: (rest ++ [later]) := by
    rw [State.enqueue_fifo, fifoPush_of_not_full hroom.ne, h, List.cons_append]
  exact State.dequeue_of_cons hlater

end Sys2Proof.Machine
end

section
/-! PROOFS. Bus dispatch (40_bus_dispatch.md R90, R98): reads that are delegated to the 32-bit read dispatch. -/

namespace Sys2Proof.Machine

/-! ### The 32-bit read dispatch gives no response of its own -/

@[simp] theorem readReg_responses (r : Reg) (s : State) : (readReg r s).2.responses = s.responses := by
  by_cases h : r = .dr
  · subst h
    exact readDr_responses s
  · rw [readReg_state_of_ne_dr h]

@[simp] theorem dwRead_responses (off : Offset) (s : State) : (dwRead off s).2.responses = s.responses := by
  rw [dwRead_eq]
  cases Reg.ofOffset off with
  | none => exact State.diag_responses ..
  | some r => exact readReg_responses r s

/-- A read through the dispatch records exactly one response, whatever its width. -/
theorem dwRead_respond (off : Offset) (s : State) (a : Response) :
    (dwRead off s).2.respond a = { (dwRead off s).2 with responses := s.responses ++ [a] } := by
  rw [State.respond, dwRead_responses]

/-! ### Requests -/

/-- The 32-bit request at any offset is the read dispatch, answered in full. -/
theorem exec_wideRead {s : State} (h : s.Ready) (off : Offset) :
    exec (wideRead off) s =
      .next { (dwRead off s).2 with responses := s.responses ++ [.data32 (dwRead off s).1] } := by
  rw [exec_of_ready h, effect_wideRead, dwRead_respond]

/-- The aligned 8-bit request is the same dispatch, answered with its low byte. -/
theorem exec_rd8Aligned {s : State} (h : s.Ready) (off : Offset) :
    exec (.rd8Aligned off) s =
      .next { (dwRead off s).2 with responses := s.responses ++ [.data8 (low8 (dwRead off s).1)] } := by
  rw [exec_of_ready h, effect, dwRead_respond]

/-! ### The obligation -/

/-- Settles O13: both requests run the read dispatch once and differ only in the response they record. -/
theorem alignedByteReadDelegates : Obligations.AlignedByteReadDelegates := by
  unfold Obligations.AlignedByteReadDelegates
  intro s off h _
  exact ⟨(dwRead off s).2, (dwRead off s).1, exec_wideRead h off, exec_rd8Aligned h off⟩

end Sys2Proof.Machine
end

section
/-! PROOFS. Register operations (43_register_operations.md R125, R130, R132): the CR2 write and the CRC result
registers. -/

namespace Sys2Proof.Machine

/-! ### The CR2 write cannot stall: Reconcile leaves the guard alone -/

@[simp] theorem State.reconcile_guard (s : State) : s.reconcile.guard = s.guard := by
  rw [State.reconcile_eq]

@[simp] theorem writeCr2_guard (v : Word) (s : State) : (writeCr2 v s).guard = s.guard := by
  rw [writeCr2, State.reconcile_guard]

/-! ### Requests -/

/-- A ready block stores the fields of CR2, reconciles and acknowledges, whatever is written (R125). -/
theorem exec_wr32Cr2 {s : State} (h : s.Ready) (v : Word) :
    exec (.wr32Cr2 v) s = .next (State.respond .ack (State.reconcile { s with cr2 := Cr2.ofWord v })) := by
  have hfree : (writeCr2 v s).guard = .free := (writeCr2_guard v s).trans h.2
  rw [exec_of_ready h, effect, State.acknowledge_of_free hfree, writeCr2]

/-- A ready block answers RXCRCR with its parameter and changes nothing else (R130). -/
theorem exec_rd32Rxcrcr {s : State} (h : s.Ready) :
    exec .rd32Rxcrcr s = .next { s with responses := s.responses ++ [.data32 s.params.rvRxcrcr] } := by
  rw [exec_of_ready h, effect, State.respond]

/-- A ready block answers TXCRCR with its parameter and changes nothing else (R132). -/
theorem exec_rd32Txcrcr {s : State} (h : s.Ready) :
    exec .rd32Txcrcr s = .next { s with responses := s.responses ++ [.data32 s.params.rvTxcrcr] } := by
  rw [exec_of_ready h, effect, State.respond]

/-! ### The obligations -/

/-- Settles O40: both reads are a response and nothing else, and no request changes any parameter (`exec_params`). -/
theorem crcResultRegistersReadConstants : Obligations.CrcResultRegistersReadConstants := by
  unfold Obligations.CrcResultRegistersReadConstants
  refine ⟨fun s h => ⟨exec_rd32Rxcrcr h, exec_rd32Txcrcr h⟩, fun i s t h => ?_⟩
  rw [exec_params h]
  exact ⟨rfl, rfl⟩

/-- Settles O43: the eight fields of the statement are those of `Cr2.ofWord`, which the CR2 write stores. -/
theorem control2WriteStoresAndReconciles : Obligations.Control2WriteStoresAndReconciles := by
  unfold Obligations.Control2WriteStoresAndReconciles
  exact fun s v h => exec_wr32Cr2 h v

end Sys2Proof.Machine
end

section
/-! PROOFS. The request word (30_encoding.md R70, R75): its fields, and which row of the opcode table takes it. -/

namespace Sys2Proof

open Machine

/-! ### The fields of a request word (R70) -/

theorem append_eq_append_iff {m n : Nat} {x x' : BitVec m} {y y' : BitVec n} :
    x ++ y = x' ++ y' ↔ x = x' ∧ y = y' := by
  constructor
  · intro h
    have hx := congrArg (BitVec.extractLsb' n m) h
    have hy := congrArg (BitVec.extractLsb' 0 n) h
    simp only [BitVec.extractLsb'_append_eq_left, BitVec.extractLsb'_append_eq_right] at hx hy
    exact ⟨hx, hy⟩
  · rintro ⟨rfl, rfl⟩
    rfl

/-- The request word with these fields; its two upper bits are 0. -/
def requestWord (k z : BitVec 2) (off : Offset) : BitVec 16 := 0b00#2 ++ k ++ z ++ off

theorem eq_append_fields (q : BitVec 16) :
    q = q.extractLsb' 14 2 ++ q.extractLsb' 12 2 ++ q.extractLsb' 10 2 ++ q.extractLsb' 0 10 := by
  rw [BitVec.extractLsb'_append_extractLsb'_eq_extractLsb' (by rfl),
    BitVec.extractLsb'_append_extractLsb'_eq_extractLsb' (by rfl),
    BitVec.extractLsb'_append_extractLsb'_eq_extractLsb' (by rfl)]
  simp

theorem requestWord_and (k k' z z' : BitVec 2) (off off' : Offset) :
    requestWord k z off &&& requestWord k' z' off' = requestWord (k &&& k') (z &&& z') (off &&& off') := by
  rw [requestWord, requestWord, BitVec.and_append, BitVec.and_append, BitVec.and_append, BitVec.and_self,
    requestWord]

theorem requestWord_inj {k k' z z' : BitVec 2} {off off' : Offset} :
    requestWord k z off = requestWord k' z' off' ↔ k = k' ∧ z = z' ∧ off = off' := by
  rw [requestWord, requestWord, append_eq_append_iff, append_eq_append_iff, append_eq_append_iff]
  tauto

@[simp] theorem readRequest_word (z : AccessSize) (off : Offset) :
    (readRequest z off).word = requestWord 0b00#2 z.code off := rfl

@[simp] theorem writeRequest_word (z : AccessSize) (off : Offset) (d : Nat) :
    (writeRequest z off d).word = requestWord 0b01#2 z.code off := rfl

@[simp] theorem resetRequest_word : resetRequest.word = requestWord 0b10#2 0b00#2 0#10 := rfl

theorem requestWord_fields (k z : BitVec 2) (off : Offset) :
    (requestWord k z off).extractLsb' 14 2 = 0#2 ∧ (requestWord k z off).extractLsb' 12 2 = k ∧
      (requestWord k z off).extractLsb' 10 2 = z ∧ (requestWord k z off).extractLsb' 0 10 = off := by
  have h := eq_append_fields (requestWord k z off)
  conv_lhs at h => rw [requestWord]
  rw [append_eq_append_iff, append_eq_append_iff, append_eq_append_iff] at h
  obtain ⟨⟨⟨htop, hkind⟩, hsize⟩, hoff⟩ := h
  exact ⟨htop.symm, hkind.symm, hsize.symm, hoff.symm⟩

theorem upper_bits_zero_iff (q : BitVec 16) : q.extractLsb' 14 2 = 0#2 ↔ q.toNat < 2 ^ 14 := by
  rw [← BitVec.toNat_inj, BitVec.extractLsb'_toNat, Nat.shiftRight_eq_div_pow, BitVec.toNat_ofNat]
  have hq : q.toNat < 65536 := q.isLt
  omega

/-- A 14-bit word is made of its three fields. -/
theorem eq_requestWord {r : Request} (h : r.word.toNat < 2 ^ 14) : r.word = requestWord r.kind r.size r.off := by
  have htop := (upper_bits_zero_iff r.word).mpr h
  conv_lhs => rw [eq_append_fields r.word, htop]
  rfl

section
variable {r : Request} {k z : BitVec 2} {off : Offset}

theorem kind_of_word (h : r.word = requestWord k z off) : r.kind = k := by
  rw [Request.kind, h, (requestWord_fields k z off).2.1]

theorem size_of_word (h : r.word = requestWord k z off) : r.size = z := by
  rw [Request.size, h, (requestWord_fields k z off).2.2.1]

theorem off_of_word (h : r.word = requestWord k z off) : r.off = off := by
  rw [Request.off, h, (requestWord_fields k z off).2.2.2]

theorem toNat_lt_of_word (h : r.word = requestWord k z off) : r.word.toNat < 2 ^ 14 := by
  rw [h]
  exact (upper_bits_zero_iff _).mp (requestWord_fields k z off).1

end

@[simp] theorem readRequest_kind (z : AccessSize) (off : Offset) : (readRequest z off).kind = 0b00#2 :=
  kind_of_word (readRequest_word z off)

@[simp] theorem readRequest_size (z : AccessSize) (off : Offset) : (readRequest z off).size = z.code :=
  size_of_word (readRequest_word z off)

@[simp] theorem writeRequest_kind (z : AccessSize) (off : Offset) (d : Nat) :
    (writeRequest z off d).kind = 0b01#2 :=
  kind_of_word (writeRequest_word z off d)

@[simp] theorem writeRequest_size (z : AccessSize) (off : Offset) (d : Nat) :
    (writeRequest z off d).size = z.code :=
  size_of_word (writeRequest_word z off d)

@[simp] theorem resetRequest_kind : resetRequest.kind = 0b10#2 := kind_of_word resetRequest_word

/-! ### Which row takes a word (R75) -/

/-- The mask `0x3FFF`: every field of the word is compared. -/
def exactMask : BitVec 16 := requestWord (BitVec.allOnes 2) (BitVec.allOnes 2) (BitVec.allOnes 10)

/-- The mask `0x3C00`: kind and size are compared. -/
def sizedMask : BitVec 16 := requestWord (BitVec.allOnes 2) (BitVec.allOnes 2) 0#10

/-- The mask `0x3C03`: kind, size and the two low bits of the offset are compared. -/
def alignedMask : BitVec 16 := requestWord (BitVec.allOnes 2) (BitVec.allOnes 2) 3#10

section
variable (k k' z z' : BitVec 2) (off off' : Offset) (make : Offset → Word → Instr)

theorem takes_exact :
    (Row.mk (requestWord k' z' off') exactMask make).takes (requestWord k z off) =
      decide (k = k' ∧ z = z' ∧ off = off') := by
  rw [← decide_eq_decide.mpr requestWord_inj, Row.takes, exactMask, requestWord_and, BitVec.and_allOnes,
    BitVec.and_allOnes, BitVec.and_allOnes]
  rfl

theorem takes_sized :
    (Row.mk (requestWord k' z' 0#10) sizedMask make).takes (requestWord k z off) = decide (k = k' ∧ z = z') := by
  rw [Row.takes, sizedMask, requestWord_and, BitVec.and_allOnes, BitVec.and_allOnes, BitVec.and_zero]
  simp [Bool.beq_eq_decide_eq, requestWord_inj]

theorem aligned_iff : Offset.aligned off = true ↔ off &&& 3#10 = 0#10 := by
  have hsplit : off = off.extractLsb' 2 8 ++ off.extractLsb' 0 2 := by
    rw [BitVec.extractLsb'_append_extractLsb'_eq_extractLsb' (by rfl), BitVec.extractLsb'_eq_self]
  have hmask : (3#10 : Offset) = 0#8 ++ BitVec.allOnes 2 := rfl
  have hzero : (0#10 : Offset) = 0#8 ++ 0#2 := rfl
  conv_rhs => rw [hsplit, hmask, hzero, BitVec.and_append, append_eq_append_iff, BitVec.and_zero, BitVec.and_allOnes]
  simp [Offset.aligned]

theorem takes_aligned :
    (Row.mk (requestWord k' z' 0#10) alignedMask make).takes (requestWord k z off) =
      decide (k = k' ∧ z = z' ∧ Offset.aligned off = true) := by
  rw [Row.takes, alignedMask, requestWord_and, BitVec.and_allOnes, BitVec.and_allOnes]
  simp [Bool.beq_eq_decide_eq, requestWord_inj, aligned_iff]

end

/-- The row of a 32-bit access to a register. -/
def regRow (k : BitVec 2) (make : Offset → Word → Instr) (r : Reg) : Row :=
  ⟨requestWord k 0b10#2 r.offset, exactMask, fun _ d => make r.offset d⟩

/-- Rows 1 to 9, by their register. -/
def readRow : Reg → Row := regRow 0b00#2 (fun off _ => wideRead off)

/-- Rows 10 to 18, by their register. -/
def writeRow : Reg → Row := regRow 0b01#2 wideWrite

theorem rows_eq : rows = Reg.all.map readRow ++ Reg.all.map writeRow ++ rowsOther := rfl

/-- Rows 19 to 27 with their patterns and masks written by their fields. -/
theorem rowsOther_eq :
    rowsOther = [
      ⟨requestWord 0b00#2 0b10#2 0#10, sizedMask, fun off _ => .rd32Unbacked off⟩,
      ⟨requestWord 0b01#2 0b10#2 0#10, sizedMask, fun off d => .wr32Unbacked off d⟩,
      ⟨requestWord 0b00#2 0b01#2 0#10, sizedMask, fun off _ => .rd16 off⟩,
      ⟨requestWord 0b01#2 0b01#2 0#10, sizedMask, fun off d => .wr16 off (d.setWidth 16)⟩,
      ⟨requestWord 0b00#2 0b00#2 0#10, alignedMask, fun off _ => .rd8Aligned off⟩,
      ⟨requestWord 0b00#2 0b00#2 0#10, sizedMask, fun off _ => .rd8Misaligned off⟩,
      ⟨requestWord 0b01#2 0b00#2 0#10, alignedMask, fun off d => .wr8Aligned off (d.setWidth 8)⟩,
      ⟨requestWord 0b01#2 0b00#2 0#10, sizedMask, fun off d => .wr8Misaligned off (d.setWidth 8)⟩,
      ⟨requestWord 0b10#2 0b00#2 0#10, exactMask, fun _ _ => .reset⟩] := rfl

/-! ### The register rows of the table, searched for a word -/

theorem offset_of_ofOffset {off : Offset} {r : Reg} (h : Reg.ofOffset off = some r) : r.offset = off :=
  eq_of_beq (List.find?_some (p := fun r : Reg => r.offset == off) h)

theorem find_regRows (k' k z : BitVec 2) (make : Offset → Word → Instr) (off : Offset) :
    (Reg.all.map (regRow k' make)).find? (fun row => row.takes (requestWord k z off)) =
      if k = k' ∧ z = 0b10#2 then (Reg.ofOffset off).map (regRow k' make) else none := by
  rw [List.find?_map]
  split
  next h =>
    have hp : (fun row : Row => row.takes (requestWord k z off)) ∘ regRow k' make = fun r => r.offset == off := by
      funext r
      simp [regRow, takes_exact, h, Bool.beq_eq_decide_eq, eq_comm]
    rw [hp, Reg.ofOffset]
  next h =>
    rw [List.find?_eq_none.mpr fun r _ => ?_, Option.map_none]
    simp only [Function.comp, regRow, takes_exact, decide_eq_true_eq]
    tauto

theorem find_rows (k z : BitVec 2) (off : Offset) :
    rows.find? (fun row => row.takes (requestWord k z off)) =
      ((if k = 0b00#2 ∧ z = 0b10#2 then (Reg.ofOffset off).map readRow else none).or
        (if k = 0b01#2 ∧ z = 0b10#2 then (Reg.ofOffset off).map writeRow else none)).or
        (rowsOther.find? (fun row => row.takes (requestWord k z off))) := by
  rw [rows_eq, List.find?_append, List.find?_append, readRow, writeRow, find_regRows, find_regRows]

end Sys2Proof
end

section
/-! PROOFS. Decoding (30_encoding.md R70 to R76): what every request of the format decodes to. -/

namespace Sys2Proof

open Machine

/-! ### The operand (R70, R76) -/

theorem toNat_ofNat_of_lt {w n : Nat} (h : n < 2 ^ w) : (BitVec.ofNat w n).toNat = n := by
  rw [BitVec.toNat_ofNat, Nat.mod_eq_of_lt h]

theorem AccessSize.ofCode_code (z : AccessSize) : AccessSize.ofCode z.code = some z := by cases z <;> rfl

theorem AccessSize.code_of_ofCode {c : BitVec 2} {z : AccessSize} (h : AccessSize.ofCode c = some z) :
    z.code = c :=
  eq_of_beq (List.find?_some (p := fun z : AccessSize => z.code == c) h)

theorem operand_readRequest (z : AccessSize) (off : Offset) : operand (readRequest z off) = .ok 0#32 := by
  rw [operand, readRequest_kind]
  rfl

theorem operand_resetRequest : operand resetRequest = .ok 0#32 := by
  rw [operand, resetRequest_kind]
  rfl

theorem operand_writeRequest {z : AccessSize} {d : Nat} (h : d < 2 ^ z.bits) (off : Offset) :
    operand (writeRequest z off d) = .ok (BitVec.ofNat 32 d) := by
  rw [operand, if_pos (writeRequest_kind z off d), writeRequest_size, AccessSize.ofCode_code]
  exact if_pos h

/-! ### Decoding a request of the format -/

/-- A request decodes to what the first row that takes its word makes of its offset and operand. -/
theorem decode_of_find {r : Request} {k z : BitVec 2} {off : Offset} {row : Row} {d : Word}
    (hw : r.word = requestWord k z off)
    (hf : rows.find? (fun row => row.takes (requestWord k z off)) = some row) (ho : operand r = .ok d) :
    decode r = .ok (row.make off d) := by
  have hlt : ¬ 2 ^ 14 ≤ r.word.toNat := Nat.not_le.mpr (toNat_lt_of_word hw)
  rw [decode, if_neg hlt, hw, hf, ← off_of_word hw]
  simp only [ho]

section
variable {z : AccessSize} {off : Offset} {row : Row}

theorem decode_readRequest_of_find
    (hf : rows.find? (fun row => row.takes (requestWord 0b00#2 z.code off)) = some row) :
    decode (readRequest z off) = .ok (row.make off 0#32) :=
  decode_of_find (readRequest_word z off) hf (operand_readRequest z off)

theorem decode_writeRequest_of_find {d : Nat} (hd : d < 2 ^ z.bits)
    (hf : rows.find? (fun row => row.takes (requestWord 0b01#2 z.code off)) = some row) :
    decode (writeRequest z off d) = .ok (row.make off (BitVec.ofNat 32 d)) :=
  decode_of_find (writeRequest_word z off d) hf (operand_writeRequest hd off)

end

theorem decode_read32 (off : Offset) : decode (readRequest .bits32 off) = .ok (wideRead off) := by
  cases h : Reg.ofOffset off with
  | some r =>
    rw [decode_readRequest_of_find (row := readRow r) (by simp [find_rows, AccessSize.code, h]), readRow,
      regRow, offset_of_ofOffset h]
  | none =>
    rw [decode_readRequest_of_find
        (row := ⟨requestWord 0b00#2 0b10#2 0#10, sizedMask, fun off _ => .rd32Unbacked off⟩)
        (by simp [find_rows, AccessSize.code, h, rowsOther_eq, takes_sized]),
      wideRead, h]

theorem decode_write32 (off : Offset) (d : Word) :
    decode (writeRequest .bits32 off d.toNat) = .ok (wideWrite off d) := by
  have hd : BitVec.ofNat 32 d.toNat = d := by simp
  cases h : Reg.ofOffset off with
  | some r =>
    rw [decode_writeRequest_of_find (row := writeRow r) d.isLt (by simp [find_rows, AccessSize.code, h]), hd,
      writeRow, regRow, offset_of_ofOffset h]
  | none =>
    rw [decode_writeRequest_of_find
        (row := ⟨requestWord 0b01#2 0b10#2 0#10, sizedMask, fun off d => .wr32Unbacked off d⟩) d.isLt
        (by simp [find_rows, AccessSize.code, h, rowsOther_eq, takes_sized]),
      hd, wideWrite, h]

theorem decode_read16 (off : Offset) : decode (readRequest .bits16 off) = .ok (.rd16 off) :=
  decode_readRequest_of_find (row := ⟨requestWord 0b00#2 0b01#2 0#10, sizedMask, fun off _ => .rd16 off⟩)
    (by simp [find_rows, AccessSize.code, rowsOther_eq, takes_sized])

theorem decode_write16 (off : Offset) (d : Half) :
    decode (writeRequest .bits16 off d.toNat) = .ok (.wr16 off d) := by
  rw [decode_writeRequest_of_find
    (row := ⟨requestWord 0b01#2 0b01#2 0#10, sizedMask, fun off d => .wr16 off (d.setWidth 16)⟩) d.isLt
    (by simp [find_rows, AccessSize.code, rowsOther_eq, takes_sized])]
  simp

/-- The 8-bit read of an offset (rows 23 and 24 of R75). -/
def byteRead (off : Offset) : Instr := if Offset.aligned off then .rd8Aligned off else .rd8Misaligned off

/-- The 8-bit write at an offset (rows 25 and 26 of R75). -/
def byteWrite (off : Offset) (d : Byte) : Instr :=
  if Offset.aligned off then .wr8Aligned off d else .wr8Misaligned off d

theorem byteRead_of_aligned {off : Offset} (h : Offset.aligned off = true) : byteRead off = .rd8Aligned off :=
  if_pos h

theorem byteRead_of_misaligned {off : Offset} (h : Offset.aligned off = false) :
    byteRead off = .rd8Misaligned off :=
  if_neg (Bool.not_eq_true _ ▸ h)

theorem byteWrite_of_aligned {off : Offset} (h : Offset.aligned off = true) (d : Byte) :
    byteWrite off d = .wr8Aligned off d :=
  if_pos h

theorem byteWrite_of_misaligned {off : Offset} (h : Offset.aligned off = false) (d : Byte) :
    byteWrite off d = .wr8Misaligned off d :=
  if_neg (Bool.not_eq_true _ ▸ h)

theorem decode_read8 (off : Offset) : decode (readRequest .bits8 off) = .ok (byteRead off) := by
  cases h : Offset.aligned off with
  | true =>
    rw [decode_readRequest_of_find
        (row := ⟨requestWord 0b00#2 0b00#2 0#10, alignedMask, fun off _ => .rd8Aligned off⟩)
        (by simp [find_rows, AccessSize.code, h, rowsOther_eq, takes_sized, takes_aligned]),
      byteRead_of_aligned h]
  | false =>
    rw [decode_readRequest_of_find
        (row := ⟨requestWord 0b00#2 0b00#2 0#10, sizedMask, fun off _ => .rd8Misaligned off⟩)
        (by simp [find_rows, AccessSize.code, h, rowsOther_eq, takes_sized, takes_aligned]),
      byteRead_of_misaligned h]

theorem decode_write8 (off : Offset) (d : Byte) :
    decode (writeRequest .bits8 off d.toNat) = .ok (byteWrite off d) := by
  cases h : Offset.aligned off with
  | true =>
    rw [decode_writeRequest_of_find
      (row := ⟨requestWord 0b01#2 0b00#2 0#10, alignedMask, fun off d => .wr8Aligned off (d.setWidth 8)⟩) d.isLt
      (by simp [find_rows, AccessSize.code, h, rowsOther_eq, takes_sized, takes_aligned])]
    simp [byteWrite_of_aligned h]
  | false =>
    rw [decode_writeRequest_of_find
      (row := ⟨requestWord 0b01#2 0b00#2 0#10, sizedMask, fun off d => .wr8Misaligned off (d.setWidth 8)⟩) d.isLt
      (by simp [find_rows, AccessSize.code, h, rowsOther_eq, takes_sized, takes_aligned])]
    simp [byteWrite_of_misaligned h]

theorem decode_resetRequest : decode resetRequest = .ok .reset :=
  decode_of_find (row := ⟨requestWord 0b10#2 0b00#2 0#10, exactMask, fun _ _ => .reset⟩) resetRequest_word
    (by simp [find_rows, rowsOther_eq, takes_sized, takes_aligned, takes_exact]) operand_resetRequest

theorem wideRead_of_not_backed {off : Offset} (h : Offset.backed off = false) :
    wideRead off = .rd32Unbacked off := by
  rw [wideRead, Option.isSome_eq_false_iff.mp h |> Option.isNone_iff_eq_none.mp]

theorem wideWrite_of_not_backed {off : Offset} (h : Offset.backed off = false) (d : Word) :
    wideWrite off d = .wr32Unbacked off d := by
  rw [wideWrite, Option.isSome_eq_false_iff.mp h |> Option.isNone_iff_eq_none.mp]

/-- Settles O2: every well-formed instruction is what its request's kind and size decode to at its offset. -/
theorem decodeEncodeRoundTrip : Obligations.DecodeEncodeRoundTrip := by
  unfold Obligations.DecodeEncodeRoundTrip
  intro i hi
  cases i with
  | rd32Cr1 | rd32Cr2 | rd32Sr | rd32Dr | rd32Crcpr | rd32Rxcrcr | rd32Txcrcr | rd32I2scfgr | rd32I2spr =>
    exact decode_read32 _
  | wr32Cr1 d | wr32Cr2 d | wr32Sr d | wr32Dr d | wr32Crcpr d | wr32Rxcrcr d | wr32Txcrcr d | wr32I2scfgr d
  | wr32I2spr d => exact decode_write32 _ d
  | rd32Unbacked off => rw [encode, decode_read32, wideRead_of_not_backed (by simpa [Instr.wellFormed] using hi)]
  | wr32Unbacked off d =>
    rw [encode, decode_write32, wideWrite_of_not_backed (by simpa [Instr.wellFormed] using hi)]
  | rd16 off => exact decode_read16 off
  | wr16 off d => exact decode_write16 off d
  | rd8Aligned off => rw [encode, decode_read8, byteRead_of_aligned hi]
  | rd8Misaligned off =>
    rw [encode, decode_read8, byteRead_of_misaligned (by simpa [Instr.wellFormed] using hi)]
  | wr8Aligned off d => rw [encode, decode_write8, byteWrite_of_aligned hi]
  | wr8Misaligned off d =>
    rw [encode, decode_write8, byteWrite_of_misaligned (by simpa [Instr.wellFormed] using hi)]
  | reset => exact decode_resetRequest

end Sys2Proof
end

section
/-! PROOFS. Refusals and spellings (30_encoding.md R76): which requests decode, and
that each instruction has one spelling. -/

namespace Sys2Proof

open Machine

/-! ### The requests of the format -/

/-- The instruction a READ of this size and offset spells. -/
def readInstr (z : AccessSize) (off : Offset) : Instr :=
  match z with
  | .bits8 => byteRead off
  | .bits16 => .rd16 off
  | .bits32 => wideRead off

/-- The instruction a WRITE of this size, offset and operand spells. -/
def writeInstr (z : AccessSize) (off : Offset) (d : Nat) : Instr :=
  match z with
  | .bits8 => byteWrite off (BitVec.ofNat 8 d)
  | .bits16 => .wr16 off (BitVec.ofNat 16 d)
  | .bits32 => wideWrite off (BitVec.ofNat 32 d)

theorem decode_readRequest (z : AccessSize) (off : Offset) :
    decode (readRequest z off) = .ok (readInstr z off) := by
  cases z with
  | bits8 => exact decode_read8 off
  | bits16 => exact decode_read16 off
  | bits32 => exact decode_read32 off

theorem decode_writeRequest {z : AccessSize} {d : Nat} (h : d < 2 ^ z.bits) (off : Offset) :
    decode (writeRequest z off d) = .ok (writeInstr z off d) := by
  cases z with
  | bits8 => rw [writeInstr, ← decode_write8, toNat_ofNat_of_lt (w := 8) h]
  | bits16 => rw [writeInstr, ← decode_write16, toNat_ofNat_of_lt (w := 16) h]
  | bits32 => rw [writeInstr, ← decode_write32, toNat_ofNat_of_lt (w := 32) h]

/-- The requests of the format. -/
inductive Request.Formed (r : Request) : Prop where
  | read (z : AccessSize) (off : Offset) (hr : r = readRequest z off)
  | write (z : AccessSize) (off : Offset) (d : Nat) (hd : d < 2 ^ z.bits) (hr : r = writeRequest z off d)
  | reset (hr : r = resetRequest)

/-- A row takes only words of a READ or a WRITE of a size that is not reserved, and the RESET word. -/
theorem fields_of_takes {row : Row} {k z : BitVec 2} {off : Offset} (hm : row ∈ rows)
    (ht : row.takes (requestWord k z off) = true) :
    (k = 0b00#2 ∧ z ≠ 0b11#2) ∨ (k = 0b01#2 ∧ z ≠ 0b11#2) ∨ (k = 0b10#2 ∧ z = 0b00#2 ∧ off = 0#10) := by
  rw [rows_eq, rowsOther_eq, List.mem_append, List.mem_append, List.mem_map, List.mem_map] at hm
  rcases hm with (⟨r, -, rfl⟩ | ⟨r, -, rfl⟩) | hm
  · obtain ⟨rfl, rfl, rfl⟩ := of_decide_eq_true ((takes_exact ..).symm.trans ht)
    exact .inl ⟨rfl, by decide⟩
  · obtain ⟨rfl, rfl, rfl⟩ := of_decide_eq_true ((takes_exact ..).symm.trans ht)
    exact .inr (.inl ⟨rfl, by decide⟩)
  · simp only [List.mem_cons, List.not_mem_nil, or_false] at hm
    rcases hm with rfl | rfl | rfl | rfl | rfl | rfl | rfl | rfl | rfl <;>
      simp only [takes_sized, takes_aligned, takes_exact, decide_eq_true_eq] at ht <;> simp [ht]

/-- When a request has an operand, it is a WRITE whose operand fits, or it carries none (R70, R76). -/
theorem operand_eq_ok {r : Request} {d : Word} (h : operand r = .ok d) :
    (r.kind = 0b01#2 ∧ ∃ n z, r.data = some n ∧ AccessSize.code z = r.size ∧ n < 2 ^ z.bits) ∨
    (r.kind ≠ 0b01#2 ∧ r.data = none) := by
  unfold operand at h
  split at h
  next hk =>
    split at h
    · cases h
    · cases h
    next n z hn hz =>
      split at h
      next hlt => exact .inl ⟨hk, n, z, hn, AccessSize.code_of_ofCode hz, hlt⟩
      · cases h
  next hk =>
    split at h
    next hn => exact .inr ⟨hk, hn⟩
    · cases h

theorem exists_code {c : BitVec 2} (h : c ≠ 0b11#2) : ∃ z, AccessSize.code z = c := by
  have hsome : ∀ c : BitVec 2, c ≠ 0b11#2 → (AccessSize.ofCode c).isSome = true := by decide
  obtain ⟨z, hz⟩ := Option.isSome_iff_exists.mp (hsome c h)
  exact ⟨z, AccessSize.code_of_ofCode hz⟩

theorem decode_eq_ok {r : Request} {i : Instr} (h : decode r = .ok i) :
    r.word.toNat < 2 ^ 14 ∧ (∃ row ∈ rows, row.takes r.word = true) ∧ ∃ d, operand r = .ok d := by
  unfold decode at h
  split at h
  · cases h
  next hw =>
    split at h
    · cases h
    next row hrow =>
      split at h
      · cases h
      next d hd =>
        have htakes := List.find?_some (p := fun row : Row => row.takes r.word) hrow
        exact ⟨Nat.not_le.mp hw, ⟨row, List.mem_of_find?_eq_some hrow, htakes⟩, d, hd⟩

theorem Request.eq_of_fields {r r' : Request} (hw : r.word = r'.word) (hd : r.data = r'.data) : r = r' := by
  cases r
  cases r'
  simp_all

section
variable {r : Request} (hlt : r.word.toNat < 2 ^ 14)
include hlt

theorem eq_readRequest {z : AccessSize} (hk : r.kind = 0b00#2) (hz : r.size = z.code) (hn : r.data = none) :
    r = readRequest z r.off :=
  Request.eq_of_fields (by rw [eq_requestWord hlt, hk, hz, readRequest_word]) hn

theorem eq_writeRequest {z : AccessSize} {d : Nat} (hk : r.kind = 0b01#2) (hz : r.size = z.code)
    (hn : r.data = some d) : r = writeRequest z r.off d :=
  Request.eq_of_fields (by rw [eq_requestWord hlt, hk, hz, writeRequest_word]) hn

theorem eq_resetRequest (hk : r.kind = 0b10#2) (hz : r.size = 0b00#2) (ho : r.off = 0#10)
    (hn : r.data = none) : r = resetRequest :=
  Request.eq_of_fields (by rw [eq_requestWord hlt, hk, hz, ho, resetRequest_word]) hn

end

theorem formed_of_decode {r : Request} {i : Instr} (h : decode r = .ok i) : r.Formed := by
  obtain ⟨hlt, ⟨row, hm, ht⟩, d, hd⟩ := decode_eq_ok h
  rw [eq_requestWord hlt] at ht
  rcases operand_eq_ok hd with ⟨hk, n, z, hn, hz, hfit⟩ | ⟨hk, hn⟩
  · exact .write z r.off n hfit (eq_writeRequest hlt hk hz.symm hn)
  · rcases fields_of_takes hm ht with ⟨hk', hz⟩ | ⟨hk', -⟩ | ⟨hk', hz, ho⟩
    · obtain ⟨z, hz⟩ := exists_code hz
      exact .read z r.off (eq_readRequest hlt hk' hz.symm hn)
    · exact absurd hk' hk
    · exact .reset (eq_resetRequest hlt hk' hz ho hn)

/-! ### Every spelling is its instruction's own -/

theorem encode_wideRead (off : Offset) : encode (wideRead off) = readRequest .bits32 off := by
  unfold wideRead
  split <;> rename_i h
  case h_10 => rfl
  all_goals rw [encode, offset_of_ofOffset h]

theorem encode_wideWrite (off : Offset) (d : Word) :
    encode (wideWrite off d) = writeRequest .bits32 off d.toNat := by
  unfold wideWrite
  split <;> rename_i h
  case h_10 => rfl
  all_goals rw [encode, offset_of_ofOffset h]

theorem wellFormed_wideRead (off : Offset) : (wideRead off).wellFormed = true := by
  cases h : Reg.ofOffset off with
  | some r => cases r <;> simp [wideRead, h, Instr.wellFormed]
  | none => simp [wideRead, h, Instr.wellFormed, Offset.backed]

theorem wellFormed_wideWrite (off : Offset) (d : Word) : (wideWrite off d).wellFormed = true := by
  cases h : Reg.ofOffset off with
  | some r => cases r <;> simp [wideWrite, h, Instr.wellFormed]
  | none => simp [wideWrite, h, Instr.wellFormed, Offset.backed]

theorem readInstr_spelling (z : AccessSize) (off : Offset) :
    (readInstr z off).wellFormed = true ∧ encode (readInstr z off) = readRequest z off := by
  cases z with
  | bits8 =>
    cases h : Offset.aligned off with
    | true => simp [readInstr, byteRead_of_aligned h, Instr.wellFormed, h, encode]
    | false => simp [readInstr, byteRead_of_misaligned h, Instr.wellFormed, h, encode]
  | bits16 => exact ⟨rfl, rfl⟩
  | bits32 => exact ⟨wellFormed_wideRead off, encode_wideRead off⟩

theorem writeInstr_spelling {z : AccessSize} {d : Nat} (hd : d < 2 ^ z.bits) (off : Offset) :
    (writeInstr z off d).wellFormed = true ∧ encode (writeInstr z off d) = writeRequest z off d := by
  cases z with
  | bits8 =>
    have hn := toNat_ofNat_of_lt (w := 8) hd
    cases h : Offset.aligned off with
    | true => simp only [writeInstr, byteWrite_of_aligned h, Instr.wellFormed, h, encode, hn, and_self]
    | false =>
      simp only [writeInstr, byteWrite_of_misaligned h, Instr.wellFormed, h, encode, hn, Bool.not_false, and_self]
  | bits16 => exact ⟨rfl, by rw [writeInstr, encode, toNat_ofNat_of_lt (w := 16) hd]⟩
  | bits32 =>
    exact ⟨wellFormed_wideWrite off _, by rw [writeInstr, encode_wideWrite, toNat_ofNat_of_lt (w := 32) hd]⟩

/-- Settles O3: a request that decodes is a READ, a WRITE or the RESET of the format, whose instruction is known. -/
theorem decodedRequestReencodes : Obligations.DecodedRequestReencodes := by
  unfold Obligations.DecodedRequestReencodes
  intro r i h
  cases formed_of_decode h with
  | read z off hr =>
    subst hr
    obtain rfl := Except.ok.inj ((decode_readRequest z off).symm.trans h)
    exact readInstr_spelling z off
  | write z off d hd hr =>
    subst hr
    obtain rfl := Except.ok.inj ((decode_writeRequest hd off).symm.trans h)
    exact writeInstr_spelling hd off
  | reset hr =>
    subst hr
    obtain rfl := Except.ok.inj (decode_resetRequest.symm.trans h)
    exact ⟨rfl, rfl⟩

theorem decode_of_formed {r : Request} (h : r.Formed) : ∃ i, decode r = .ok i := by
  cases h with
  | read z off hr => exact ⟨_, hr ▸ decode_readRequest z off⟩
  | write z off d hd hr => exact ⟨_, hr ▸ decode_writeRequest hd off⟩
  | reset hr => exact ⟨_, hr ▸ decode_resetRequest⟩

/-- Settles O4: the requests that decode are those of the format; both directions name its three kinds. -/
theorem decoderAcceptsServedRequestsOnly : Obligations.DecoderAcceptsServedRequestsOnly := by
  unfold Obligations.DecoderAcceptsServedRequestsOnly
  intro r
  constructor
  · rintro ⟨i, h⟩
    refine ⟨(decode_eq_ok h).1, ?_⟩
    cases formed_of_decode h with
    | read z off hr =>
      subst hr
      exact .inl ⟨readRequest_kind z off, by cases z <;> simp [AccessSize.code], rfl⟩
    | write z off d hd hr =>
      subst hr
      refine .inr (.inl ⟨writeRequest_kind z off d, d, rfl, ?_⟩)
      cases z <;> simpa [AccessSize.code, AccessSize.bits] using hd
    | reset hr =>
      subst hr
      exact .inr (.inr ⟨by decide, by decide, by decide, rfl⟩)
  · rintro ⟨hlt, h⟩
    apply decode_of_formed
    rcases h with ⟨hk, hz, hn⟩ | ⟨hk, d, hn, hz⟩ | ⟨hk, hz, ho, hn⟩
    · obtain ⟨z, hz⟩ := exists_code hz
      exact .read z r.off (eq_readRequest hlt hk hz.symm hn)
    · rcases hz with ⟨hz, hd⟩ | ⟨hz, hd⟩ | ⟨hz, hd⟩
      · exact .write .bits8 r.off d hd (eq_writeRequest hlt hk hz hn)
      · exact .write .bits16 r.off d hd (eq_writeRequest hlt hk hz hn)
      · exact .write .bits32 r.off d hd (eq_writeRequest hlt hk hz hn)
    · exact .reset (eq_resetRequest hlt hk hz ho hn)

end Sys2Proof
end

section
/-! PROOFS. Assembler lines (30_encoding.md R78 to R80), the tabled words, and the window (20_memory.md R50, R61). -/

namespace Sys2Proof

open Machine

theorem OffOperand.resolve_number {n : Nat} (h : n ≤ 0x3FF) :
    (OffOperand.number n).resolve = some (BitVec.ofNat 10 n) :=
  if_pos h

theorem OffOperand.resolve_number_of_gt {n : Nat} (h : 0x3FF < n) : (OffOperand.number n).resolve = none :=
  if_neg (Nat.not_le.mpr h)

/-- Every assembled line is a request of the format. -/
theorem formed_of_assemble {line : AsmLine} {r : Request} (h : line.assemble = some r) : r.Formed := by
  cases line with
  | rd z off =>
    cases ho : off.resolve with
    | none => simp [AsmLine.assemble, ho] at h
    | some o => exact .read z o (by simpa [AsmLine.assemble, ho] using h.symm)
  | wr z off d =>
    cases ho : off.resolve with
    | none => simp [AsmLine.assemble, ho] at h
    | some o =>
      obtain ⟨hd, hr⟩ : d < 2 ^ z.bits ∧ writeRequest z o d = r := by simpa [AsmLine.assemble, ho] using h
      exact .write z o d hd hr.symm
  | reset => exact .reset (Option.some.inj h).symm

theorem assemble_wr_of_wide {z : AccessSize} {d : Nat} (h : 2 ^ z.bits ≤ d) (off : OffOperand) :
    (AsmLine.wr z off d).assemble = none := by
  cases ho : off.resolve <;> simp [AsmLine.assemble, ho, h]

/-- Settles O5: an assembled line is a request of the format, and the offset decides which. -/
theorem assembledLinesDecode : Obligations.AssembledLinesDecode := by
  unfold Obligations.AssembledLinesDecode
  refine ⟨fun line r h => decode_of_formed (formed_of_assemble h), fun z n d h => ?_,
    fun z off d h => assemble_wr_of_wide h off, fun z n h => ?_, fun z n d h hd => ?_,
    rfl, rfl, rfl, rfl, rfl, rfl, rfl, rfl, rfl, rfl⟩
  · simp [AsmLine.assemble, OffOperand.resolve_number_of_gt h]
  · simp [AsmLine.assemble, OffOperand.resolve_number h]
  · simp [AsmLine.assemble, OffOperand.resolve_number h, hd]

/-- Settles O1: each word runs through the decoder. -/
theorem tabledWordsDecode : Obligations.TabledWordsDecode := by
  unfold Obligations.TabledWordsDecode
  decide

/-- Settles O6: the window is the 1024 addresses from the base on, and the offset counts from the base. -/
theorem windowOffsets : Obligations.WindowOffsets := by
  unfold Obligations.WindowOffsets
  intro base addr
  refine ⟨fun h => if_neg (by omega), fun h => if_neg (by omega), fun hlo hhi => ?_⟩
  have hin : windowOffset base addr = some (BitVec.ofNat 10 (addr - base)) := if_pos ⟨hlo, by omega⟩
  refine ⟨_, hin, ?_⟩
  rw [toNat_ofNat_of_lt (by omega)]
  omega

end Sys2Proof
end

section
/-! PROOFS. Events (10_state.md R37, R43): every handler stores what it stores and then emits a list of events, and the
levels are those the line calls of that list leave. -/

namespace Sys2Proof.Machine

/-! ### Emitting a list of events -/

/-- The state once these events are emitted: they are recorded, and the levels follow their line calls (R37). -/
def State.emitAll (es : List Event) (s : State) : State :=
  { s with levels := levelsAfter s.levels es, events := s.events ++ es }

@[simp] theorem State.emitAll_params (es : List Event) (s : State) : (s.emitAll es).params = s.params := rfl
@[simp] theorem State.emitAll_cr1 (es : List Event) (s : State) : (s.emitAll es).cr1 = s.cr1 := rfl
@[simp] theorem State.emitAll_cr2 (es : List Event) (s : State) : (s.emitAll es).cr2 = s.cr2 := rfl
@[simp] theorem State.emitAll_crcpr (es : List Event) (s : State) : (s.emitAll es).crcpr = s.crcpr := rfl
@[simp] theorem State.emitAll_i2scfgr (es : List Event) (s : State) : (s.emitAll es).i2scfgr = s.i2scfgr := rfl
@[simp] theorem State.emitAll_i2spr (es : List Event) (s : State) : (s.emitAll es).i2spr = s.i2spr := rfl
@[simp] theorem State.emitAll_fifo (es : List Event) (s : State) : (s.emitAll es).fifo = s.fifo := rfl
@[simp] theorem State.emitAll_levels (es : List Event) (s : State) :
    (s.emitAll es).levels = levelsAfter s.levels es := rfl
@[simp] theorem State.emitAll_guard (es : List Event) (s : State) : (s.emitAll es).guard = s.guard := rfl
@[simp] theorem State.emitAll_events (es : List Event) (s : State) : (s.emitAll es).events = s.events ++ es := rfl
@[simp] theorem State.emitAll_pending (es : List Event) (s : State) : (s.emitAll es).pending = s.pending := rfl
@[simp] theorem State.emitAll_responses (es : List Event) (s : State) :
    (s.emitAll es).responses = s.responses := rfl
@[simp] theorem State.emitAll_slaveScript (es : List Event) (s : State) :
    (s.emitAll es).slaveScript = s.slaveScript := rfl
@[simp] theorem State.emitAll_slaveDraws (es : List Event) (s : State) :
    (s.emitAll es).slaveDraws = s.slaveDraws := rfl

@[simp] theorem State.emitAll_nil (s : State) : s.emitAll [] = s := by simp [State.emitAll, levelsAfter]

@[simp] theorem State.emitAll_emitAll (xs ys : List Event) (s : State) :
    (s.emitAll xs).emitAll ys = s.emitAll (xs ++ ys) := by
  simp [State.emitAll, levelsAfter_append]

theorem State.lineDeassert_eq (l : Line) (s : State) : s.lineDeassert l = s.emitAll [.lineOp l .deassert] := rfl

theorem State.diag_eq (sev : Severity) (k : DiagKind) (s : State) : s.diag sev k = s.emitAll [.diag sev k] := rfl

theorem State.inertDiag_eq_emitAll (r : Reg) (v : Word) (s : State) :
    s.inertDiag r v = s.emitAll (inertEvents r v) := by
  unfold State.inertDiag inertEvents
  split <;> simp [State.diag_eq]

/-- The calls of `Reconcile` (R111, R112). -/
def reconcileEvents (s : State) : List Event := dmatxCalls s ++ [irqCall s]

theorem levelsAfter_dmatxCalls {l : Levels} {s : State} (h : l.dmatx = s.levels.dmatx) :
    levelsAfter l (dmatxCalls s) = { l with dmatx := s.cr2.txdmaen } := by
  obtain ⟨irq, dmarx, dmatx⟩ := l
  subst h
  cases ht : s.cr2.txdmaen <;> cases hl : s.levels.dmatx <;> simp [dmatxCalls, ht, hl, levelsAfter]

@[simp] theorem levelsAfter_irqCall (l : Levels) (s : State) :
    levelsAfter l [irqCall s] = { l with irq := s.irqCondition } := by
  cases h : s.irqCondition <;> simp [irqCall, h, levelsAfter]

theorem levelsAfter_reconcileEvents {l : Levels} {s : State} (h : l.dmatx = s.levels.dmatx) :
    levelsAfter l (reconcileEvents s) = { l with irq := s.irqCondition, dmatx := s.cr2.txdmaen } := by
  rw [reconcileEvents, levelsAfter_append, levelsAfter_dmatxCalls h, levelsAfter_irqCall]

theorem State.reconcile_eq_emitAll (s : State) : s.reconcile = s.emitAll (reconcileEvents s) := by
  rw [State.reconcile_eq, State.emitAll, levelsAfter_reconcileEvents rfl, reconcileEvents, List.append_assoc]

/-! ### Register writes (43_register_operations.md) -/

/-- What a write of a register other than DR stores. -/
def storeReg (r : Reg) (v : Word) (s : State) : State :=
  match r with
  | .cr1 => { s with cr1 := Cr1.ofWord v }
  | .cr2 => { s with cr2 := Cr2.ofWord v }
  | .crcpr => { s with crcpr := v &&& s.params.maskCrcpr }
  | .i2scfgr => { s with i2scfgr := v &&& s.params.maskI2scfgr }
  | .i2spr => { s with i2spr := v &&& s.params.maskI2spr }
  | .sr | .dr | .rxcrcr | .txcrcr => s

/-- What a write of a register other than DR emits. -/
def writeEvents (r : Reg) (v : Word) (s : State) : List Event :=
  match r with
  | .cr1 =>
    (if v.getLsbD 2 then [] else [.diag .warning .masterCleared]) ++
      (if s.cr1.spe && !v.getLsbD 6 then [.lineOp .irq .deassert] else []) ++ inertEvents .cr1 v
  | .cr2 => reconcileEvents { s with cr2 := Cr2.ofWord v }
  | .i2scfgr => (if v.getLsbD 10 then [.diag .warning .i2sEnableSet] else []) ++ inertEvents .i2scfgr v
  | .sr | .dr | .crcpr | .rxcrcr | .txcrcr | .i2spr => inertEvents r v

/-- A write of any register but DR stores, then emits. -/
theorem writeReg_eq {r : Reg} (h : r ≠ .dr) (v : Word) (s : State) :
    writeReg r v s = (storeReg r v s).emitAll (writeEvents r v s) := by
  cases r with
  | dr => exact absurd rfl h
  | cr1 =>
    simp only [writeReg, writeCr1, warnMasterCleared, deassertOnSpeClear, State.inertDiag_eq_emitAll, storeReg,
      writeEvents]
    split <;> split <;> simp [State.diag_eq, State.lineDeassert_eq]
  | cr2 => exact State.reconcile_eq_emitAll _
  | i2scfgr =>
    simp only [writeReg, writeI2scfgr, warnI2sEnable, State.inertDiag_eq_emitAll, storeReg, writeEvents]
    split <;> simp [State.diag_eq]
  | sr | crcpr | rxcrcr | txcrcr | i2spr => exact State.inertDiag_eq_emitAll ..

/-! ### The data path (41_data_path.md) -/

/-- What a DR read emits (R100). -/
def drReadEvents (s : State) : List Event :=
  .lineOp .irq .deassert :: (if s.fifo = [] then [] else reconcileEvents { s with fifo := s.fifo.tail })

/-- A DR read takes the oldest byte, if there is one, and emits. -/
theorem readDr_state (s : State) : (readDr s).2 = State.emitAll (drReadEvents s) { s with fifo := s.fifo.tail } := by
  cases h : s.fifo with
  | nil =>
    have hs : { s with fifo := [] } = s := by rw [← h]
    rw [readDr_empty h, drReadEvents, if_pos h, List.tail_nil, hs, State.lineDeassert_eq]
  | cons b rest =>
    have hs : { s.lineDeassert .irq with fifo := rest } =
        State.emitAll [.lineOp .irq .deassert] { s with fifo := rest } := rfl
    rw [readDr_cons h, hs, State.reconcile_eq_emitAll, State.emitAll_emitAll, drReadEvents,
      if_neg (by simp [h]), h]
    rfl

/-- What a DR write with no slave emits (R101 step 1, R102). -/
def noSlaveEvents (v : Word) : List Event :=
  [.lineOp .irq .deassert, .diag .warning (.noSlave (v.extractLsb' 0 16))]

/-- What a DR write emits before it asks the slave (R101 step 1, R103 step 3a). -/
def exchangeEvents : List Event := [.lineOp .irq .deassert, .lineOp .dmatx .deassert]

/-- What a DR write emits once the slave has returned `rx` (R103 steps 3b to 3e), in the state `u` it asked in. -/
def returnEvents (tx rx : Byte) (u : State) : List Event :=
  .xfer tx rx :: ((if u.cr2.rxdmaen then [.lineOp .dmarx .assert, .lineOp .dmarx .deassert] else []) ++
    dmatxCalls u ++ [.lineOp .irq (if u.cr2.txeie || u.cr2.rxneie then .assert else .deassert)])

theorem levelsAfter_returnEvents (tx rx : Byte) (u : State) :
    levelsAfter u.levels (returnEvents tx rx u) =
      { irq := u.cr2.txeie || u.cr2.rxneie
        dmarx := if u.cr2.rxdmaen then false else u.levels.dmarx
        dmatx := u.cr2.txdmaen } := by
  unfold returnEvents
  cases hr : u.cr2.rxdmaen <;> cases hi : (u.cr2.txeie || u.cr2.rxneie) <;>
    simp [levelsAfter, levelsAfter_append, levelsAfter_dmatxCalls]

theorem slaveReturned_eq_emitAll (tx rx : Byte) (u : State) :
    slaveReturned tx rx u = (u.enqueue rx).emitAll (returnEvents tx rx u) := by
  simp only [slaveReturned_eq, State.enqueue, State.emitAll, levelsAfter_returnEvents]
  simp [returnEvents]

theorem beforeExchange_eq (s : State) : beforeExchange s = s.emitAll exchangeEvents := by
  simp [beforeExchange, State.lineDeassert_eq, exchangeEvents]

theorem State.takeAnswer_emitAll (es : List Event) (s : State) :
    (s.emitAll es).takeAnswer = s.takeAnswer.emitAll es := by
  unfold State.takeAnswer
  split <;> simp_all <;> rfl

theorem returnEvents_takeAnswer (tx rx : Byte) (u : State) :
    returnEvents tx rx u.takeAnswer = returnEvents tx rx u := by
  simp [returnEvents, dmatxCalls]

section
variable {v : Word} {s : State}

/-- With no slave a DR write enqueues 0 (R102). -/
theorem writeDr_of_absent (hs : s.params.slave = .absent) :
    writeDr v s = (s.enqueue 0x00#8).emitAll (noSlaveEvents v) := by
  rw [writeDr_absent hs, noSlaveWrite, State.lineDeassert_eq, State.diag_eq, State.emitAll_emitAll]
  rfl

/-- With a slave that answers, a DR write enqueues the answer (R103). -/
theorem writeDr_of_byte {rx : Byte} (hs : s.params.slave = .present)
    (ha : (beforeExchange s).slaveAnswer (v.extractLsb' 0 8) = .byte rx) :
    writeDr v s = (s.takeAnswer.enqueue rx).emitAll
      (exchangeEvents ++ returnEvents (v.extractLsb' 0 8) rx (beforeExchange s)) := by
  rw [writeDr_byte hs (by rwa [low8_low16]), low8_low16, slaveReturned_eq_emitAll, returnEvents_takeAnswer,
    ← State.emitAll_emitAll, beforeExchange_eq, State.takeAnswer_emitAll]
  rfl

/-- With a slave that stalls, a DR write holds the guard forever (R42, R103). -/
theorem writeDr_of_stall (hs : s.params.slave = .present)
    (ha : (beforeExchange s).slaveAnswer (v.extractLsb' 0 8) = .stall) :
    writeDr v s = s.takeAnswer.holdForever.emitAll exchangeEvents := by
  rw [writeDr_stall hs (by rwa [low8_low16]), beforeExchange_eq, State.takeAnswer_emitAll]
  rfl

end

/-- All that a DR write can do: with no slave it enqueues 0; with a slave it enqueues the byte the slave returns, or it
holds the guard forever when the slave stalls. -/
inductive DrWrite (v : Word) (s : State) : Prop where
  | absent (hs : s.params.slave = .absent) (hw : writeDr v s = (s.enqueue 0x00#8).emitAll (noSlaveEvents v))
  | returned (rx : Byte) (hs : s.params.slave = .present)
      (ha : (beforeExchange s).slaveAnswer (v.extractLsb' 0 8) = .byte rx)
      (hw : writeDr v s = (s.takeAnswer.enqueue rx).emitAll
        (exchangeEvents ++ returnEvents (v.extractLsb' 0 8) rx (beforeExchange s)))
  | stalled (hs : s.params.slave = .present)
      (ha : (beforeExchange s).slaveAnswer (v.extractLsb' 0 8) = .stall)
      (hw : writeDr v s = s.takeAnswer.holdForever.emitAll exchangeEvents)

theorem drWrite (v : Word) (s : State) : DrWrite v s := by
  cases hs : s.params.slave with
  | absent => exact .absent hs (writeDr_of_absent hs)
  | present =>
    cases ha : (beforeExchange s).slaveAnswer (v.extractLsb' 0 8) with
    | byte rx => exact .returned rx hs ha (writeDr_of_byte hs ha)
    | stall => exact .stalled hs ha (writeDr_of_stall hs ha)

/-! ### Acknowledging adds a response at most -/

theorem State.acknowledge_eq (s : State) : s.acknowledge = { s with responses := s.acknowledge.responses } := by
  unfold State.acknowledge
  split <;> rfl

@[simp] theorem State.acknowledge_cr1 (s : State) : s.acknowledge.cr1 = s.cr1 := by rw [State.acknowledge_eq]
@[simp] theorem State.acknowledge_cr2 (s : State) : s.acknowledge.cr2 = s.cr2 := by rw [State.acknowledge_eq]
@[simp] theorem State.acknowledge_crcpr (s : State) : s.acknowledge.crcpr = s.crcpr := by
  rw [State.acknowledge_eq]
@[simp] theorem State.acknowledge_i2scfgr (s : State) : s.acknowledge.i2scfgr = s.i2scfgr := by
  rw [State.acknowledge_eq]
@[simp] theorem State.acknowledge_i2spr (s : State) : s.acknowledge.i2spr = s.i2spr := by
  rw [State.acknowledge_eq]
@[simp] theorem State.acknowledge_levels (s : State) : s.acknowledge.levels = s.levels := by
  rw [State.acknowledge_eq]
@[simp] theorem State.acknowledge_guard (s : State) : s.acknowledge.guard = s.guard := by
  rw [State.acknowledge_eq]
@[simp] theorem State.acknowledge_events (s : State) : s.acknowledge.events = s.events := by
  rw [State.acknowledge_eq]
@[simp] theorem State.acknowledge_pending (s : State) : s.acknowledge.pending = s.pending := by
  rw [State.acknowledge_eq]
@[simp] theorem State.acknowledge_slaveScript (s : State) : s.acknowledge.slaveScript = s.slaveScript := by
  rw [State.acknowledge_eq]
@[simp] theorem State.acknowledge_slaveDraws (s : State) : s.acknowledge.slaveDraws = s.slaveDraws := by
  rw [State.acknowledge_eq]

/-! ### What a request emits -/

/-- No line is asserted among these events. -/
def NoAssert (es : List Event) : Prop := ∀ line : Line, .lineOp line .assert ∉ es

theorem noAssert_nil : NoAssert [] := fun _ => List.not_mem_nil

theorem noAssert_diag (sev : Severity) (k : DiagKind) : NoAssert [.diag sev k] := by simp [NoAssert]

theorem noAssert_inertEvents (r : Reg) (v : Word) : NoAssert (inertEvents r v) := by
  unfold inertEvents
  split <;> simp [NoAssert]

/-- Only a CR2 write asserts a line among the writes of registers other than DR. -/
theorem noAssert_writeEvents {r : Reg} (h : r ≠ .cr2) (v : Word) (s : State) : NoAssert (writeEvents r v s) := by
  cases r with
  | cr2 => exact absurd rfl h
  | cr1 =>
    have hinert := noAssert_inertEvents .cr1 v
    simp only [NoAssert, writeEvents, List.mem_append, not_or] at hinert ⊢
    refine fun line => ⟨⟨?_, ?_⟩, hinert line⟩
    · split <;> simp
    · split <;> simp
  | i2scfgr =>
    have hinert := noAssert_inertEvents .i2scfgr v
    simp only [NoAssert, writeEvents, List.mem_append, not_or] at hinert ⊢
    refine fun line => ⟨?_, hinert line⟩
    split <;> simp
  | sr | dr | crcpr | rxcrcr | txcrcr | i2spr => exact noAssert_inertEvents _ v

/-- `t` comes from `s` by emitting `es`, whatever else changed. -/
def Emits (s t : State) (es : List Event) : Prop :=
  t.events = s.events ++ es ∧ t.levels = levelsAfter s.levels es

@[simp] theorem storeReg_events (r : Reg) (v : Word) (s : State) : (storeReg r v s).events = s.events := by
  cases r <;> rfl

@[simp] theorem storeReg_levels (r : Reg) (v : Word) (s : State) : (storeReg r v s).levels = s.levels := by
  cases r <;> rfl

theorem emits_writeReg {r : Reg} (h : r ≠ .dr) (v : Word) (s : State) :
    Emits s (writeReg r v s) (writeEvents r v s) := by
  simp [Emits, writeReg_eq h]

theorem emits_readDr (s : State) : Emits s (readDr s).2 (drReadEvents s) := by
  simp [Emits, readDr_state]

/-- What RESET emits (R170). -/
def resetEvents : List Event := [.lineOp .irq .deassert, .lineOp .dmarx .deassert, .lineOp .dmatx .deassert]

theorem resetBlock_eq (s : State) :
    resetBlock s = State.emitAll resetEvents (State.restoreFields { s with fifo := [] }) := by
  simp [resetBlock, State.lineDeassert_eq, resetEvents]
  rfl

theorem emits_resetBlock (s : State) : Emits s (resetBlock s) resetEvents := by
  simp [Emits, resetBlock_eq]

/-- Every request emits a list of events and the levels follow it; the list asserts no line unless the request runs
Reconcile (R115). -/
theorem exec_emits {i : Instr} {s t : State} (h : exec i s = .next t) :
    ∃ es, Emits s t es ∧ (¬ reconciles i s → NoAssert es) := by
  obtain ⟨hs, rfl⟩ := exec_next h
  cases effect_shape i with
  | read r width hr _ _ he =>
    rw [he]
    by_cases hd : r = .dr
    · subst hd
      refine ⟨drReadEvents s, emits_readDr s, fun hn => ?_⟩
      have hf : s.fifo = [] := by
        by_contra hf
        exact hn (.inl ⟨hr, hf⟩)
      simp [drReadEvents, hf, NoAssert]
    · exact ⟨[], by simp [Emits, readReg_state_of_ne_dr hd, levelsAfter], fun _ => noAssert_nil⟩
  | write r v _ hw _ he =>
    rw [he]
    by_cases hd : r = .dr
    · subst hd
      cases drWrite v s with
      | absent hs' hw' =>
        exact ⟨noSlaveEvents v, by simp [Emits, writeReg, hw'], fun _ => by simp [noSlaveEvents, NoAssert]⟩
      | returned rx hs' ha hw' =>
        exact ⟨exchangeEvents ++ returnEvents (v.extractLsb' 0 8) rx (beforeExchange s),
          by simp [Emits, writeReg, hw'], fun hn => absurd (.inr (.inl ⟨hw, hs'⟩)) hn⟩
      | stalled hs' ha hw' =>
        exact ⟨exchangeEvents, by simp [Emits, writeReg, hw'], fun hn => absurd (.inr (.inl ⟨hw, hs'⟩)) hn⟩
    · refine ⟨writeEvents r v s, by simpa [Emits] using emits_writeReg hd v s, fun hn => ?_⟩
      exact noAssert_writeEvents (fun h2 => hn (.inr (.inr (h2 ▸ hw)))) v s
  | miss k a _ _ _ he =>
    rw [he s hs.2]
    exact ⟨[.diag .warning k], by simp [Emits, levelsAfter], fun _ => noAssert_diag _ k⟩
  | reset _ _ _ he =>
    rw [he]
    exact ⟨resetEvents, by simpa [Emits] using emits_resetBlock s, fun _ => by simp [resetEvents, NoAssert]⟩

/-! ### A line that is not asserted does not rise -/

theorem levelsAfter_le {es : List Event} (h : NoAssert es) (l : Levels) (line : Line) :
    (levelsAfter l es).get line = true → l.get line = true := by
  induction es generalizing l with
  | nil => exact id
  | cons e es ih =>
    have hrest : NoAssert es := fun line hm => h line (List.mem_cons_of_mem _ hm)
    cases e with
    | lineOp line' op =>
      cases op with
      | assert => exact absurd List.mem_cons_self (h line')
      | deassert =>
        intro ht
        have hset := ih hrest _ ht
        cases line <;> cases line' <;> simp_all
    | xfer tx rx => exact ih hrest l
    | diag sev k => exact ih hrest l

end Sys2Proof.Machine
end

section
/-! PROOFS. What a request leaves alone and what every step keeps (10_state.md R32 to R42,
42_line_reconciliation.md R114 to R118). -/

namespace Sys2Proof.Machine

/-! ### Reads change the FIFO, the levels and the events at most -/

theorem readReg_eq (r : Reg) (s : State) :
    (readReg r s).2 =
      { s with
        fifo := (readReg r s).2.fifo
        levels := (readReg r s).2.levels
        events := (readReg r s).2.events } := by
  by_cases h : r = .dr
  · subst h
    rw [readReg, readDr_state]
    rfl
  · rw [readReg_state_of_ne_dr h]

@[simp] theorem readReg_cr1 (r : Reg) (s : State) : (readReg r s).2.cr1 = s.cr1 := by rw [readReg_eq]
@[simp] theorem readReg_cr2 (r : Reg) (s : State) : (readReg r s).2.cr2 = s.cr2 := by rw [readReg_eq]
@[simp] theorem readReg_crcpr (r : Reg) (s : State) : (readReg r s).2.crcpr = s.crcpr := by rw [readReg_eq]
@[simp] theorem readReg_i2scfgr (r : Reg) (s : State) : (readReg r s).2.i2scfgr = s.i2scfgr := by rw [readReg_eq]
@[simp] theorem readReg_i2spr (r : Reg) (s : State) : (readReg r s).2.i2spr = s.i2spr := by rw [readReg_eq]
@[simp] theorem readReg_guard (r : Reg) (s : State) : (readReg r s).2.guard = s.guard := by rw [readReg_eq]
@[simp] theorem readReg_pending (r : Reg) (s : State) : (readReg r s).2.pending = s.pending := by rw [readReg_eq]

/-! ### Writes change the register they reach -/

section
variable (r : Reg) (v : Word) (s : State)

@[simp] theorem writeReg_cr1 : (writeReg r v s).cr1 = if r = .cr1 then Cr1.ofWord v else s.cr1 := by
  by_cases h : r = .dr
  · subst h
    exact writeDr_cr1 v s
  · rw [writeReg_eq h]
    cases r <;> rfl

@[simp] theorem writeReg_cr2 : (writeReg r v s).cr2 = if r = .cr2 then Cr2.ofWord v else s.cr2 := by
  by_cases h : r = .dr
  · subst h
    exact writeDr_cr2 v s
  · rw [writeReg_eq h]
    cases r <;> rfl

@[simp] theorem writeReg_crcpr :
    (writeReg r v s).crcpr = if r = .crcpr then v &&& s.params.maskCrcpr else s.crcpr := by
  by_cases h : r = .dr
  · subst h
    exact writeDr_crcpr v s
  · rw [writeReg_eq h]
    cases r <;> rfl

@[simp] theorem writeReg_i2scfgr :
    (writeReg r v s).i2scfgr = if r = .i2scfgr then v &&& s.params.maskI2scfgr else s.i2scfgr := by
  by_cases h : r = .dr
  · subst h
    exact writeDr_i2scfgr v s
  · rw [writeReg_eq h]
    cases r <;> rfl

@[simp] theorem writeReg_i2spr :
    (writeReg r v s).i2spr = if r = .i2spr then v &&& s.params.maskI2spr else s.i2spr := by
  by_cases h : r = .dr
  · subst h
    exact writeDr_i2spr v s
  · rw [writeReg_eq h]
    cases r <;> rfl

@[simp] theorem writeReg_pending : (writeReg r v s).pending = s.pending := by
  by_cases h : r = .dr
  · subst h
    exact writeDr_pending v s
  · rw [writeReg_eq h]
    cases r <;> rfl

@[simp] theorem writeReg_responses : (writeReg r v s).responses = s.responses := by
  by_cases h : r = .dr
  · subst h
    exact writeDr_responses v s
  · rw [writeReg_eq h]
    cases r <;> rfl

end

theorem writeReg_guard_of_ne_dr {r : Reg} (h : r ≠ .dr) (v : Word) (s : State) :
    (writeReg r v s).guard = s.guard := by
  rw [writeReg_eq h]
  cases r <;> rfl

/-- Only a DR write with a slave can move the guard (R42, R103). -/
theorem writeReg_guard_cases (r : Reg) (v : Word) (s : State) :
    (writeReg r v s).guard = s.guard ∨
      (r = .dr ∧ s.params.slave = .present ∧ (writeReg r v s).guard = .heldForever) := by
  by_cases h : r = .dr
  · subst h
    cases drWrite v s with
    | absent hs hw => exact .inl (by simp [writeReg, hw])
    | returned rx hs ha hw => exact .inl (by simp [writeReg, hw])
    | stalled hs ha hw => exact .inr ⟨rfl, hs, by simp [writeReg, hw]⟩
  · exact .inl (writeReg_guard_of_ne_dr h v s)

@[simp] theorem resetBlock_guard (s : State) : (resetBlock s).guard = s.guard := by simp [resetBlock]
@[simp] theorem resetBlock_pending (s : State) : (resetBlock s).pending = s.pending := by simp [resetBlock]
@[simp] theorem resetBlock_responses (s : State) : (resetBlock s).responses = s.responses := by simp [resetBlock]
@[simp] theorem resetBlock_cr1 (s : State) : (resetBlock s).cr1 = Cr1.zero := rfl
@[simp] theorem resetBlock_cr2 (s : State) : (resetBlock s).cr2 = Cr2.zero := rfl
@[simp] theorem resetBlock_crcpr (s : State) : (resetBlock s).crcpr = s.params.rvCrcpr := rfl
@[simp] theorem resetBlock_i2scfgr (s : State) : (resetBlock s).i2scfgr = s.params.rvI2scfgr := rfl
@[simp] theorem resetBlock_i2spr (s : State) : (resetBlock s).i2spr = s.params.rvI2spr := rfl
@[simp] theorem resetBlock_levels (s : State) : (resetBlock s).levels = Levels.low := rfl

/-! ### Requests: frames -/

theorem exec_pending {i : Instr} {s t : State} (h : exec i s = .next t) : t.pending = s.pending := by
  obtain ⟨hs, rfl⟩ := exec_next h
  cases effect_shape i with
  | read r width _ _ _ he => simp [he]
  | write r v _ _ _ he => simp [he]
  | miss k a _ _ _ he => simp [he s hs.2]
  | reset _ _ _ he => simp [he]

/-- An acknowledgement adds one response, unless the guard is held. -/
theorem State.acknowledge_responses_cases (s : State) :
    (s.guard = .free ∧ s.acknowledge.responses = s.responses ++ [.ack]) ∨
    (s.guard = .heldForever ∧ s.acknowledge.responses = s.responses) := by
  cases h : s.guard with
  | free => exact .inl ⟨rfl, by rw [State.acknowledge_of_free h, State.respond_responses]⟩
  | heldForever => exact .inr ⟨rfl, by rw [State.acknowledge_of_held h]⟩

theorem exec_responses_grow {i : Instr} {s t : State} (h : exec i s = .next t) :
    ∃ rs, t.responses = s.responses ++ rs := by
  obtain ⟨hs, rfl⟩ := exec_next h
  have hack : ∀ u : State, u.responses = s.responses → ∃ rs, u.acknowledge.responses = s.responses ++ rs := by
    intro u hu
    rcases u.acknowledge_responses_cases with ⟨-, hr⟩ | ⟨-, hr⟩
    · exact ⟨_, by rw [hr, hu]⟩
    · exact ⟨[], by rw [hr, hu, List.append_nil]⟩
  cases effect_shape i with
  | read r width _ _ _ he => exact ⟨_, by rw [he, State.respond_responses, readReg_responses]⟩
  | write r v _ _ _ he =>
    rw [he]
    exact hack _ (writeReg_responses r v s)
  | miss k a _ _ _ he => exact ⟨_, by rw [he s hs.2, State.respond_responses, State.diag_responses]⟩
  | reset _ _ _ he =>
    rw [he]
    exact hack _ (resetBlock_responses s)

/-- Settles O12: parameters and pending requests stand, and `exec_emits` says the events are appended. -/
theorem requestsKeepParametersAndHistory : Obligations.RequestsKeepParametersAndHistory := by
  unfold Obligations.RequestsKeepParametersAndHistory
  intro i s t h
  obtain ⟨es, ⟨hes, -⟩, -⟩ := exec_emits h
  exact ⟨exec_params h, exec_pending h, ⟨es, hes⟩, exec_responses_grow h⟩

/-- Settles O54: a read, a miss and a write of another register leave the stored value as it was. -/
theorem registersChangeOnlyByTheirWrites : Obligations.RegistersChangeOnlyByTheirWrites := by
  unfold Obligations.RegistersChangeOnlyByTheirWrites
  intro i s t h
  obtain ⟨hs, rfl⟩ := exec_next h
  cases effect_shape i with
  | read r width _ _ _ he => simp [he]
  | write r v _ hw _ he =>
    have hguard := writeReg_guard_cases r v s
    simp only [he, hw, State.acknowledge_cr1, State.acknowledge_cr2, State.acknowledge_crcpr,
      State.acknowledge_i2scfgr, State.acknowledge_i2spr, State.acknowledge_guard, writeReg_cr1, writeReg_cr2,
      writeReg_crcpr, writeReg_i2scfgr, writeReg_i2spr, ite_ne_right_iff, Option.some.injEq]
    tauto
  | miss k a _ _ _ he => simp [he s hs.2]
  | reset hi _ _ he =>
    rw [he]
    simp [hi]

/-! ### Levels -/

@[simp] theorem levelsAfter_inertEvents (l : Levels) (r : Reg) (v : Word) : levelsAfter l (inertEvents r v) = l := by
  unfold inertEvents
  split <;> rfl

@[simp] theorem levelsAfter_exchangeEvents (l : Levels) :
    levelsAfter l exchangeEvents = { l with irq := false, dmatx := false } := rfl

@[simp] theorem levelsAfter_noSlaveEvents (l : Levels) (v : Word) :
    levelsAfter l (noSlaveEvents v) = { l with irq := false } := rfl

/-- A CR1 write moves IRQ at most (R122). -/
theorem writeCr1_levels (v : Word) (s : State) :
    (writeReg .cr1 v s).levels =
      { s.levels with irq := if s.cr1.spe = true ∧ v.getLsbD 6 = false then false else s.levels.irq } := by
  rw [writeReg_eq (by decide), State.emitAll_levels, storeReg_levels, writeEvents, levelsAfter_append,
    levelsAfter_inertEvents]
  cases s.cr1.spe <;> cases v.getLsbD 6 <;> cases v.getLsbD 2 <;> rfl

/-- Reconcile after a CR2 write drives DMATX and IRQ from the new fields (R125). -/
theorem writeCr2_levels (v : Word) (s : State) :
    (writeReg .cr2 v s).levels =
      { s.levels with irq := State.irqCondition { s with cr2 := Cr2.ofWord v }, dmatx := (Cr2.ofWord v).txdmaen } :=
  (congrArg State.levels (writeReg_eq (by decide) v s)).trans (levelsAfter_reconcileEvents rfl)

theorem writeReg_levels_of_inert {r : Reg} (h1 : r ≠ .cr1) (h2 : r ≠ .cr2) (hd : r ≠ .dr) (v : Word) (s : State) :
    (writeReg r v s).levels = s.levels := by
  rw [writeReg_eq hd, State.emitAll_levels, storeReg_levels]
  cases r with
  | cr1 | cr2 | dr => contradiction
  | sr | crcpr | rxcrcr | txcrcr | i2spr => exact levelsAfter_inertEvents ..
  | i2scfgr =>
    rw [writeEvents, levelsAfter_append, levelsAfter_inertEvents]
    split <;> rfl

/-- The levels a DR read leaves: IRQ low, and what Reconcile says when a byte was taken (R100). -/
theorem readDr_levels (s : State) :
    (readDr s).2.levels =
      if s.fifo = [] then { s.levels with irq := false }
      else
        { s.levels with
          irq := State.irqCondition { s with fifo := s.fifo.tail }
          dmatx := s.cr2.txdmaen } := by
  rw [readDr_state, State.emitAll_levels, drReadEvents]
  split
  · rfl
  · exact levelsAfter_reconcileEvents rfl

/-- The levels a completed slave write leaves (R103). -/
theorem levelsAfter_slaveWrite (tx rx : Byte) (s : State) :
    levelsAfter s.levels (exchangeEvents ++ returnEvents tx rx (beforeExchange s)) =
      { irq := s.cr2.txeie || s.cr2.rxneie
        dmarx := if s.cr2.rxdmaen then false else s.levels.dmarx
        dmatx := s.cr2.txdmaen } := by
  rw [levelsAfter_append]
  exact levelsAfter_returnEvents tx rx (beforeExchange s)

/-- DMARX is only ever pulsed: no request leaves it higher than it was (R114). -/
theorem exec_dmarx_low {i : Instr} {s t : State} (h : exec i s = .next t) (hl : s.levels.dmarx = false) :
    t.levels.dmarx = false := by
  obtain ⟨hs, rfl⟩ := exec_next h
  cases effect_shape i with
  | read r width _ _ _ he =>
    rw [he, State.respond_levels]
    by_cases hd : r = .dr
    · subst hd
      rw [readReg, readDr_levels]
      split <;> exact hl
    · rwa [readReg_state_of_ne_dr hd]
  | write r v _ _ _ he =>
    rw [he, State.acknowledge_levels]
    cases r with
    | dr =>
      rw [writeReg]
      cases drWrite v s with
      | absent hs hw => simpa [hw] using hl
      | returned rx hs ha hw => simp [hw, levelsAfter_slaveWrite, hl]
      | stalled hs ha hw => simpa [hw] using hl
    | cr1 => simpa [writeCr1_levels] using hl
    | cr2 => simpa [writeCr2_levels] using hl
    | sr | crcpr | rxcrcr | txcrcr | i2scfgr | i2spr =>
      rwa [writeReg_levels_of_inert (by decide) (by decide) (by decide)]
  | miss k a _ _ _ he => simpa [he s hs.2] using hl
  | reset _ _ _ he => simp [he, Levels.low]

/-- DMATX follows TXDMAEN as long as the block is not stuck: a CR2 write, the one place where TXDMAEN changes, and a
slave write, the one place where DMATX falls, end in Reconcile (R118). -/
theorem exec_dmatx_follows {i : Instr} {s t : State} (h : exec i s = .next t)
    (hl : s.levels.dmatx = s.cr2.txdmaen) (hg : t.guard = .free) : t.levels.dmatx = t.cr2.txdmaen := by
  obtain ⟨hs, rfl⟩ := exec_next h
  cases effect_shape i with
  | read r width _ _ _ he =>
    rw [he, State.respond_levels, State.respond_cr2, readReg_cr2]
    by_cases hd : r = .dr
    · subst hd
      rw [readReg, readDr_levels]
      split
      · exact hl
      · rfl
    · rwa [readReg_state_of_ne_dr hd]
  | write r v _ _ _ he =>
    rw [he, State.acknowledge_guard] at hg
    rw [he, State.acknowledge_levels, State.acknowledge_cr2, writeReg_cr2]
    cases r with
    | dr =>
      rw [writeReg] at hg ⊢
      cases drWrite v s with
      | absent hs hw => simpa [hw] using hl
      | returned rx hs ha hw => simp [hw, levelsAfter_slaveWrite]
      | stalled hs ha hw => simp [hw] at hg
    | cr1 => simpa [writeCr1_levels] using hl
    | cr2 => simp [writeCr2_levels]
    | sr | crcpr | rxcrcr | txcrcr | i2scfgr | i2spr =>
      rwa [writeReg_levels_of_inert (by decide) (by decide) (by decide)]
  | miss k a _ _ _ he => simpa [he s hs.2] using hl
  | reset _ _ _ he => simp [he, Levels.low, Cr2.zero]

/-! ### The masks of the inert registers (R27, R30, R31) -/

/-- What an inert register with this mask and reset value may hold after a request: what was there, a value within the
mask, or the reset value. -/
def MaskedStore (x old mask rv : Word) : Prop := x = old ∨ (∃ v, x = v &&& mask) ∨ x = rv

theorem maskedStore_ite (c : Prop) [Decidable c] (v old mask rv : Word) :
    MaskedStore (if c then v &&& mask else old) old mask rv :=
  (ite_eq_or_eq c (v &&& mask) old).elim (fun h => .inr (.inl ⟨v, h⟩)) .inl

theorem exec_inert_registers {i : Instr} {s t : State} (h : exec i s = .next t) :
    MaskedStore t.crcpr s.crcpr s.params.maskCrcpr s.params.rvCrcpr ∧
    MaskedStore t.i2scfgr s.i2scfgr s.params.maskI2scfgr s.params.rvI2scfgr ∧
    MaskedStore t.i2spr s.i2spr s.params.maskI2spr s.params.rvI2spr := by
  obtain ⟨hs, rfl⟩ := exec_next h
  cases effect_shape i with
  | read r width _ _ _ he => simp [he, MaskedStore]
  | write r v _ _ _ he =>
    rw [he, State.acknowledge_crcpr, State.acknowledge_i2scfgr, State.acknowledge_i2spr, writeReg_crcpr,
      writeReg_i2scfgr, writeReg_i2spr]
    exact ⟨maskedStore_ite .., maskedStore_ite .., maskedStore_ite ..⟩
  | miss k a _ _ _ he => simp [he s hs.2, MaskedStore]
  | reset _ _ _ he => simp [he, MaskedStore]

theorem and_mask_and_not_mask (v m : Word) : v &&& m &&& ~~~m = 0#32 := by
  rw [BitVec.and_assoc, BitVec.and_not_self]
  exact BitVec.and_zero

theorem MaskedStore.within {x old rv m : Word} (h : MaskedStore x old m rv) (hold : old &&& ~~~m = 0#32)
    (hrv : rv &&& ~~~m = 0#32) : x &&& ~~~m = 0#32 := by
  rcases h with rfl | ⟨v, rfl⟩ | rfl
  · exact hold
  · exact and_mask_and_not_mask v m
  · exact hrv

/-- A register within a mask reads 0 where the mask is 0. -/
theorem getLsbD_of_within_mask {x m : Word} (h : x &&& ~~~m = 0#32) {k : Nat} (hk : k < 32)
    (hm : m.getLsbD k = false) : x.getLsbD k = false := by
  have hbit := congrArg (fun w => w.getLsbD k) h
  simpa only [BitVec.getLsbD_and, BitVec.getLsbD_not, hk, hm, decide_true, Bool.not_false, Bool.and_self,
    Bool.and_true, BitVec.getLsbD_zero] using hbit

/-! ### The invariant -/

/-- Serving a request keeps the invariant. -/
theorem State.Inv.exec {i : Instr} {s t : State} (hs : s.Inv) (h : exec i s = .next t) : t.Inv := by
  obtain ⟨-, hcrcpr, hi2scfgr, hi2spr, hmask, -⟩ := hs.params
  obtain ⟨c1, c2, c3⟩ := exec_inert_registers h
  obtain ⟨es, ⟨hevents, hlevels⟩, -⟩ := exec_emits h
  have hfree : s.guard = .free := (exec_next h).1.2
  have hp := exec_params h
  have hcfg : t.i2scfgr &&& ~~~s.params.maskI2scfgr = 0#32 := c2.within hs.i2scfgr hi2scfgr
  exact {
    params := hp ▸ hs.params
    fifo := hp ▸ exec_fifo_length_le hs.fifo h
    crcpr := hp ▸ c1.within hs.crcpr hcrcpr
    i2scfgr := hp ▸ hcfg
    i2spr := hp ▸ c3.within hs.i2spr hi2spr
    i2se := getLsbD_of_within_mask hcfg (by decide) hmask
    dmarx := exec_dmarx_low h hs.dmarx
    dmatx := exec_dmatx_follows h (hs.dmatx hfree)
    trace := by rw [hevents, levelsAfter_append, hs.trace, hlevels] }

/-- Taking a request off the list touches nothing the invariant speaks of. -/
theorem State.Inv.withPending {s : State} (hs : s.Inv) (rs : List Request) : (s.withPending rs).Inv :=
  { hs with }

/-- All that a step can do: serve the oldest pending request, which decodes. -/
theorem step_next {s t : State} (h : step s = .next t) :
    ∃ r rest i, s.pending = r :: rest ∧ decode r = .ok i ∧ exec i (s.withPending rest) = .next t := by
  unfold step at h
  split at h
  · cases h
  next r rest hp =>
    split at h
    · cases h
    next i hi => exact ⟨r, rest, i, hp, hi, h⟩

/-- Settles O52: a step serves one decoded request, and `State.Inv.exec` holds for every request. -/
theorem stepKeepsInvariant : Obligations.StepKeepsInvariant := by
  unfold Obligations.StepKeepsInvariant
  intro s t hs h
  obtain ⟨r, rest, i, -, -, he⟩ := step_next h
  exact (hs.withPending rest).exec he

/-- Settles O51: every clause is read off the construction values and the constraints of R6. -/
theorem constructionMeetsInvariant : Obligations.ConstructionMeetsInvariant := by
  unfold Obligations.ConstructionMeetsInvariant
  have hconstruct : ∀ p : Params, p.Valid → (State.construct p).Inv := by
    intro p hp
    have ⟨_, hcrcpr, hi2scfgr, hi2spr, _, hi2se⟩ := hp
    exact {
      params := hp
      fifo := Nat.zero_le _
      crcpr := hcrcpr
      i2scfgr := hi2scfgr
      i2spr := hi2spr
      i2se := hi2se
      dmarx := rfl
      dmatx := fun _ => rfl
      trace := rfl }
  exact ⟨hconstruct, hconstruct _ (by decide)⟩

end Sys2Proof.Machine
end

section
/-! PROOFS. Steps, runs and stops (20_memory.md R59, 30_encoding.md R71, 10_state.md R42, 70_reset_and_hazards.md R181,
R183). -/

namespace Sys2Proof.Machine

/-! ### Steps -/

theorem step_of_decode {s : State} {r : Request} {rest : List Request} {i : Instr} (hp : s.pending = r :: rest)
    (hd : decode r = .ok i) : step s = exec i (s.withPending rest) := by
  simp only [step, hp, hd]

theorem step_of_malformed {s : State} {r : Request} {rest : List Request} {e : Malformed}
    (hp : s.pending = r :: rest) (hd : decode r = .error e) : step s = .refused (.malformedRequest e) := by
  simp only [step, hp, hd]

theorem step_of_nothing_pending {s : State} (hp : s.pending = []) : step s = .refused .noRequest := by
  simp only [step, hp]

theorem decode_of_decodeTableWord {nbits w : Nat} {i : Instr} (h : decodeTableWord nbits w = some i) :
    decode (Request.ofBits nbits w) = .ok i := by
  unfold decodeTableWord at h
  split at h
  next j hj => exact hj.trans (congrArg _ (Option.some.inj h))
  · cases h

/-- Settles O7: each clause is one branch of the step. -/
theorem stepRunsDecodedRequest : Obligations.StepRunsDecodedRequest := by
  unfold Obligations.StepRunsDecodedRequest
  exact ⟨fun _ _ _ _ hp hd => step_of_decode hp hd, fun _ _ _ _ hp hd => step_of_malformed hp hd,
    fun _ hp => step_of_nothing_pending hp, fun _ _ _ _ h => step_of_decode rfl (decode_of_decodeTableWord h)⟩

/-! ### Stops -/

theorem exec_of_invalid {s : State} (h : ¬ s.params.Valid) (i : Instr) : exec i s = .refused .badConfiguration := by
  rw [exec_eq_serve, serve_invalid h]

theorem exec_of_held {s : State} (hv : s.params.Valid) (hg : s.guard = .heldForever) (i : Instr) :
    exec i s = .fault .stuck := by
  rw [exec_eq_serve, serve_held hv hg]

/-- Settles O9: each disjunct denies one constraint of R6. -/
theorem badConfigurationIsRefused : Obligations.BadConfigurationIsRefused := by
  unfold Obligations.BadConfigurationIsRefused
  intro i s h
  refine exec_of_invalid (fun ⟨hcap, h1, h2, h3, h4, h5⟩ => ?_) i
  rcases h with hc | hc | hc | hc | hc | hc
  · omega
  · exact hc h1
  · exact hc h2
  · exact hc h3
  · exact absurd (h4.symm.trans hc) (by decide)
  · exact absurd (h5.symm.trans hc) (by decide)

theorem step_ne_next_of_held {s : State} (hg : s.guard = .heldForever) (t : State) : step s ≠ .next t := by
  intro h
  obtain ⟨r, rest, i, -, -, he⟩ := step_next h
  have hfree : s.guard = .free := (exec_next he).1.2
  simp [hg] at hfree

theorem observation_of_held {s : State} (hg : s.guard = .heldForever) : s.observation = none := by
  simp only [State.observation, hg]

/-- Settles O10: `serve` looks at the guard before any handler runs. -/
theorem stuckBlockServesNothing : Obligations.StuckBlockServesNothing := by
  unfold Obligations.StuckBlockServesNothing
  exact fun s hv hg => ⟨exec_of_held hv hg, step_ne_next_of_held hg, observation_of_held hg⟩

/-! ### Fields that a request only carries along

`pending` is read by no handler, and CR1 by none but its own read and its own write, which looks at SPE. -/

/-- The state with another CR1 and other pending requests. -/
def State.withCarried (c : Cr1) (p : List Request) (s : State) : State := { s with cr1 := c, pending := p }

theorem State.takeAnswer_withCarried (c : Cr1) (p : List Request) (s : State) :
    (s.withCarried c p).takeAnswer = s.takeAnswer.withCarried c p := by
  unfold State.takeAnswer
  split <;> simp_all [State.withCarried]

section
variable {c : Cr1} {s : State} (p : List Request)

theorem readReg_withCarried_state (r : Reg) :
    (readReg r (s.withCarried c p)).2 = (readReg r s).2.withCarried c p := by
  by_cases h : r = .dr
  · subst h
    simp only [readReg, readDr_state]
    rfl
  · simp only [readReg_state_of_ne_dr h]

/-- The value a DR read returns depends on the FIFO alone. -/
theorem readDr_value (s : State) : (readDr s).1 = (s.fifo.head?.map (BitVec.setWidth 32)).getD 0#32 := by
  cases h : s.fifo with
  | nil => simp [readDr_empty h]
  | cons b rest => simp [readDr_cons h]

theorem readReg_withCarried_value {r : Reg} (h : r ≠ .cr1 ∨ c = s.cr1) :
    (readReg r (s.withCarried c p)).1 = (readReg r s).1 := by
  cases r with
  | cr1 =>
    obtain rfl := h.resolve_left (fun hne => hne rfl)
    rfl
  | dr =>
    simp only [readReg, readDr_value]
    rfl
  | cr2 | sr | crcpr | rxcrcr | txcrcr | i2scfgr | i2spr => rfl

theorem writeReg_withCarried (hc : c.spe = s.cr1.spe) (r : Reg) (v : Word) :
    writeReg r v (s.withCarried c p) =
      (writeReg r v s).withCarried (if r = .cr1 then Cr1.ofWord v else c) p := by
  by_cases h : r = .dr
  · subst h
    simp only [writeReg]
    cases drWrite v s with
    | absent hs hw =>
      rw [hw, writeDr_of_absent (s := s.withCarried c p) hs]
      rfl
    | returned rx hs ha hw =>
      rw [hw, writeDr_of_byte (s := s.withCarried c p) hs ha, State.takeAnswer_withCarried]
      rfl
    | stalled hs ha hw =>
      rw [hw, writeDr_of_stall (s := s.withCarried c p) hs ha, State.takeAnswer_withCarried]
      rfl
  · rw [writeReg_eq h, writeReg_eq h]
    cases r with
    | dr => contradiction
    | cr1 =>
      simp only [writeEvents, State.withCarried, hc]
      rfl
    | cr2 | sr | crcpr | rxcrcr | txcrcr | i2scfgr | i2spr => rfl

theorem acknowledge_withCarried (u : State) : (u.withCarried c p).acknowledge = u.acknowledge.withCarried c p := by
  cases hg : u.guard with
  | free => simp only [State.acknowledge_of_free hg, State.acknowledge_of_free (s := u.withCarried c p) hg]; rfl
  | heldForever => simp only [State.acknowledge_of_held hg, State.acknowledge_of_held (s := u.withCarried c p) hg]

theorem resetBlock_withCarried : resetBlock (s.withCarried c p) = (resetBlock s).withCarried Cr1.zero p := rfl

/-- Two blocks that differ in pending requests and in CR1 fields other than SPE are served alike: the next states differ
in those fields and in the responses at most, and in the responses only where CR1 is read. -/
theorem effect_withCarried (hg : s.guard = .free) (hc : c.spe = s.cr1.spe) (i : Instr) :
    ∃ c' rs, effect i (s.withCarried c p) = { (effect i s).withCarried c' p with responses := rs } ∧
      (readTarget i ≠ some .cr1 ∨ c = s.cr1 → rs = (effect i s).responses) ∧
      (c = s.cr1 → c' = (effect i s).cr1) := by
  cases effect_shape i with
  | read r width hr _ _ he =>
    refine ⟨c, s.responses ++ [width (readReg r (s.withCarried c p)).1], ?_, fun h => ?_, fun h => ?_⟩
    · rw [he, he, readReg_withCarried_state]
      simp [State.respond, State.withCarried]
    · rw [he, readReg_withCarried_value p (by simpa [hr] using h), State.respond_responses, readReg_responses]
    · simp [he, h]
  | write r v _ _ _ he =>
    refine ⟨if r = .cr1 then Cr1.ofWord v else c, (effect i s).responses, ?_, fun _ => rfl, fun h => ?_⟩
    · rw [he, he, writeReg_withCarried p hc, acknowledge_withCarried]
      rfl
    · simp [he, h]
  | miss k a _ _ _ he =>
    refine ⟨c, (effect i s).responses, ?_, fun _ => rfl, fun h => ?_⟩
    · rw [he s hg, he (s.withCarried c p) hg]
      rfl
    · simp [he s hg, h]
  | reset _ _ _ he =>
    refine ⟨Cr1.zero, (effect i s).responses, ?_, fun _ => rfl, fun _ => by simp [he]⟩
    rw [he, he, resetBlock_withCarried, acknowledge_withCarried]
    rfl

end

/-- Settles O55: CR1 is one of the fields `effect_withCarried` lets differ. -/
theorem inertControl1FieldsChangeNothing : Obligations.InertControl1FieldsChangeNothing := by
  unfold Obligations.InertControl1FieldsChangeNothing
  intro i s t c hc h
  have hpending := exec_pending h
  obtain ⟨hs, rfl⟩ := exec_next h
  obtain ⟨c', rs, hu, hresp, -⟩ := effect_withCarried s.pending hs.2 hc i
  refine ⟨_, (exec_of_ready (s := s.withCarried c s.pending) hs i).trans (congrArg _ hu), ?_,
    fun hr => hresp (.inl hr)⟩
  rw [← hpending]
  rfl

/-! ### Runs -/

/-- A request on a block with other pending requests does the same and keeps those. -/
theorem exec_withPending_next {i : Instr} {s t : State} (h : exec i s = .next t) (p : List Request) :
    exec i (s.withPending p) = .next (t.withPending p) := by
  obtain ⟨hs, rfl⟩ := exec_next h
  obtain ⟨c', rs, hu, hresp, hcr1⟩ := effect_withCarried (c := s.cr1) p hs.2 rfl i
  rw [exec_of_ready (s := s.withPending p) hs]
  refine congrArg _ (hu.trans ?_)
  rw [hresp (.inr rfl), hcr1 rfl]
  rfl

/-- A block serves, or is stuck, or has a bad configuration. -/
theorem State.ready_or_stopped (s : State) :
    s.Ready ∨ (s.params.Valid ∧ s.guard = .heldForever) ∨ ¬ s.params.Valid := by
  by_cases hv : s.params.Valid
  · cases hg : s.guard with
    | free => exact .inl ⟨hv, hg⟩
    | heldForever => exact .inr (.inl ⟨hv, rfl⟩)
  · exact .inr (.inr hv)

theorem serveAll_cons_next {i : Instr} {s t : State} (h : exec i s = .next t) (is : List Instr) :
    serveAll (i :: is) s = serveAll is t := by
  rw [serveAll, h]

section
variable {M : Host.Core} {s : M.State} (n : Nat)

theorem run_of_next {t : M.State} (h : M.step s = .next t) : M.run (n + 1) s = M.run n t := by
  rw [Host.Core.run, h]

theorem run_of_fault {f : M.Fault} (h : M.step s = .fault f) : M.run (n + 1) s = .fault f := by
  rw [Host.Core.run, h]

theorem run_of_refused {r : M.Refusal} (h : M.step s = .refused r) : M.run (n + 1) s = .refused r := by
  rw [Host.Core.run, h]

end

/-- Running the machine on the encodings of a list of requests is serving the list. -/
theorem run_eq_serveAll (is : List Instr) (hwf : ∀ i ∈ is, i.wellFormed = true) (s : State) :
    Host.Core.run Sys2Proof.core is.length (s.withPending (is.map encode)) = serveAll is (s.withPending []) := by
  induction is generalizing s with
  | nil => rfl
  | cons i is ih =>
    have hi : decode (encode i) = .ok i := decodeEncodeRoundTrip i (hwf i List.mem_cons_self)
    have hstep : Sys2Proof.core.step (s.withPending (encode i :: is.map encode)) =
        exec i (s.withPending (is.map encode)) :=
      step_of_decode (s := s.withPending (encode i :: is.map encode)) rfl hi
    rcases s.ready_or_stopped with hs | ⟨hv, hg⟩ | hv
    · have hnext := exec_of_ready hs i
      have hfirst := run_of_next is.length (hstep.trans (exec_withPending_next hnext _))
      have hrest := ih (fun j hj => hwf j (List.mem_cons_of_mem _ hj)) (effect i s)
      exact hfirst.trans (hrest.trans (serveAll_cons_next (exec_withPending_next hnext []) is).symm)
    · rw [serveAll, exec_of_held (s := s.withPending []) hv hg]
      exact run_of_fault _ (hstep.trans (exec_of_held (s := s.withPending (is.map encode)) hv hg i))
    · rw [serveAll, exec_of_invalid (s := s.withPending []) hv]
      exact run_of_refused _ (hstep.trans (exec_of_invalid (s := s.withPending (is.map encode)) hv i))

/-- Settles O8: `run_eq_serveAll`, with nothing pending beforehand. -/
theorem runServesRequestsInArrivalOrder : Obligations.RunServesRequestsInArrivalOrder := by
  unfold Obligations.RunServesRequestsInArrivalOrder
  intro is s hwf hp
  have hs : s.withPending [] = s := by rw [State.withPending, ← hp]
  exact hs ▸ run_eq_serveAll is hwf s

/-! ### Responses (R71) -/

/-- The response is of the kind and size of the request. -/
def Answers (i : Instr) (r : Response) : Prop :=
  ((encode i).kind = 0b00#2 ∧ (encode i).size = 0b00#2 → ∃ v, r = .data8 v) ∧
  ((encode i).kind = 0b00#2 ∧ (encode i).size = 0b01#2 → ∃ v, r = .data16 v) ∧
  ((encode i).kind = 0b00#2 ∧ (encode i).size = 0b10#2 → ∃ v, r = .data32 v) ∧
  ((encode i).kind ≠ 0b00#2 → r = .ack)

section
variable {i : Instr}

theorem answers_data8 {off : Offset} (h : encode i = readRequest .bits8 off) (v : Byte) :
    Answers i (.data8 v) := by
  simp [Answers, h, AccessSize.code]

theorem answers_data16 {off : Offset} (h : encode i = readRequest .bits16 off) (v : Half) :
    Answers i (.data16 v) := by
  simp [Answers, h, AccessSize.code]

theorem answers_data32 {off : Offset} (h : encode i = readRequest .bits32 off) (v : Word) :
    Answers i (.data32 v) := by
  simp [Answers, h, AccessSize.code]

theorem answers_ack (h : (encode i).kind ≠ 0b00#2) : Answers i .ack := by
  simp [Answers, h]

end

/-- A read request adds one response of its size. -/
theorem effect_read_response {i : Instr} (hk : (encode i).kind = 0b00#2) (s : State) :
    ∃ r, (effect i s).responses = s.responses ++ [r] ∧ Answers i r := by
  cases i with
  | rd32Cr1 | rd32Cr2 | rd32Sr | rd32Crcpr | rd32Rxcrcr | rd32Txcrcr | rd32I2scfgr | rd32I2spr
  | rd32Unbacked off => exact ⟨_, rfl, answers_data32 rfl _⟩
  | rd32Dr => exact ⟨_, by rw [effect, State.respond_responses, readDr_responses], answers_data32 rfl _⟩
  | rd16 off => exact ⟨_, by rw [effect, State.respond_responses, dwRead_responses], answers_data16 rfl _⟩
  | rd8Aligned off => exact ⟨_, by rw [effect, State.respond_responses, dwRead_responses], answers_data8 rfl _⟩
  | rd8Misaligned off => exact ⟨_, rfl, answers_data8 rfl _⟩
  | wr32Cr1 d | wr32Cr2 d | wr32Sr d | wr32Dr d | wr32Crcpr d | wr32Rxcrcr d | wr32Txcrcr d | wr32I2scfgr d
  | wr32I2spr d | wr32Unbacked off d | wr16 off d | wr8Aligned off d | wr8Misaligned off d | reset =>
    simp [encode] at hk

@[simp] theorem dwWrite_responses (off : Offset) (v : Word) (s : State) :
    (dwWrite off v s).responses = s.responses := by
  rw [dwWrite_eq]
  cases Reg.ofOffset off with
  | none => rfl
  | some r => exact writeReg_responses r v s

/-- A write request or RESET acknowledges what its handler did, and the handler gives no response of its own. -/
theorem effect_acknowledges {i : Instr} (hk : (encode i).kind ≠ 0b00#2) (s : State) :
    ∃ u : State, effect i s = u.acknowledge ∧ u.responses = s.responses := by
  cases i with
  | wr32Cr1 d => exact ⟨_, rfl, writeReg_responses .cr1 d s⟩
  | wr32Cr2 d => exact ⟨_, rfl, writeReg_responses .cr2 d s⟩
  | wr32Sr d => exact ⟨_, rfl, writeReg_responses .sr d s⟩
  | wr32Dr d => exact ⟨_, rfl, writeReg_responses .dr d s⟩
  | wr32Crcpr d => exact ⟨_, rfl, writeReg_responses .crcpr d s⟩
  | wr32Rxcrcr d => exact ⟨_, rfl, writeReg_responses .rxcrcr d s⟩
  | wr32Txcrcr d => exact ⟨_, rfl, writeReg_responses .txcrcr d s⟩
  | wr32I2scfgr d => exact ⟨_, rfl, writeReg_responses .i2scfgr d s⟩
  | wr32I2spr d => exact ⟨_, rfl, writeReg_responses .i2spr d s⟩
  | wr16 off d => exact ⟨_, rfl, dwWrite_responses off _ s⟩
  | wr8Aligned off d => exact ⟨_, rfl, dwWrite_responses off _ s⟩
  | wr32Unbacked off d | wr8Misaligned off d => exact ⟨_, rfl, rfl⟩
  | reset => exact ⟨_, rfl, resetBlock_responses s⟩
  | rd32Cr1 | rd32Cr2 | rd32Sr | rd32Dr | rd32Crcpr | rd32Rxcrcr | rd32Txcrcr | rd32I2scfgr | rd32I2spr
  | rd32Unbacked off | rd16 off | rd8Aligned off | rd8Misaligned off => simp [encode] at hk

/-- Only a stalled DR write leaves the guard held (R42). -/
theorem exec_guard_cases {i : Instr} {s t : State} (h : exec i s = .next t) :
    t.guard = .free ∨ (t.guard = .heldForever ∧ writeTarget i = some .dr ∧ s.params.slave = .present) := by
  obtain ⟨hs, rfl⟩ := exec_next h
  cases effect_shape i with
  | read r width _ _ _ he => exact .inl (by simp [he, hs.2])
  | write r v _ hw _ he =>
    rw [he, State.acknowledge_guard]
    rcases writeReg_guard_cases r v s with hg | ⟨rfl, hslave, hg⟩
    · exact .inl (hg.trans hs.2)
    · exact .inr ⟨hg, hw, hslave⟩
  | miss k a _ _ _ he => exact .inl (by simp [he s hs.2, hs.2])
  | reset _ _ _ he => exact .inl (by simp [he, hs.2])

theorem kind_ne_read_of_writeTarget {i : Instr} {r : Reg} (h : writeTarget i = some r) :
    (encode i).kind ≠ 0b00#2 := by
  cases i <;> simp_all [encode, writeTarget]

theorem exec_response {i : Instr} {s t : State} (h : exec i s = .next t) (hg : t.guard = .free) :
    ∃ r, t.responses = s.responses ++ [r] ∧ Answers i r := by
  obtain ⟨hs, rfl⟩ := exec_next h
  by_cases hk : (encode i).kind = 0b00#2
  · exact effect_read_response hk s
  · obtain ⟨u, hu, hr⟩ := effect_acknowledges hk s
    rw [hu, State.acknowledge_guard] at hg
    exact ⟨.ack, by rw [hu, State.acknowledge_of_free hg, State.respond_responses, hr], answers_ack hk⟩

theorem exec_no_response_of_held {i : Instr} {s t : State} (h : exec i s = .next t)
    (hg : t.guard = .heldForever) (hk : (encode i).kind ≠ 0b00#2) : t.responses = s.responses := by
  obtain ⟨hs, rfl⟩ := exec_next h
  obtain ⟨u, hu, hr⟩ := effect_acknowledges hk s
  rw [hu, State.acknowledge_guard] at hg
  rw [hu, State.acknowledge_of_held hg, hr]

/-- Settles O11: the guard decides; free means one response of the request's kind, held a stalled DR write. -/
theorem everyRequestIsAnswered : Obligations.EveryRequestIsAnswered := by
  unfold Obligations.EveryRequestIsAnswered
  intro i s hs
  have h := exec_of_ready hs i
  refine ⟨_, h, ?_⟩
  rcases exec_guard_cases h with hg | ⟨hg, hw, hslave⟩
  · exact .inl ⟨hg, exec_response h hg⟩
  · exact .inr ⟨hg, hw, hslave, exec_no_response_of_held h hg (kind_ne_read_of_writeTarget hw)⟩

/-! ### A read after RESET (R171) -/

/-- What a register reads is made of the parameters, the stored registers and the FIFO. -/
theorem readReg_value_congr {s t : State} (hp : s.params = t.params) (h1 : s.cr1 = t.cr1) (h2 : s.cr2 = t.cr2)
    (hc : s.crcpr = t.crcpr) (hi : s.i2scfgr = t.i2scfgr) (hs : s.i2spr = t.i2spr) (hf : s.fifo = t.fifo)
    (r : Reg) : (readReg r s).1 = (readReg r t).1 := by
  cases r with
  | cr1 => exact congrArg Cr1.image h1
  | cr2 => exact congrArg Cr2.image h2
  | sr => simp only [readReg, readSr, State.srImage, State.rxne, hp, hf]
  | dr => simp only [readReg, readDr_value, hf]
  | crcpr => exact hc
  | rxcrcr => exact congrArg Params.rvRxcrcr hp
  | txcrcr => exact congrArg Params.rvTxcrcr hp
  | i2scfgr => exact hi
  | i2spr => exact hs

theorem readTarget_of_read {i : Instr} (h : (encode i).kind = 0b00#2) : writeTarget i = none ∧ i ≠ .reset := by
  constructor
  · cases hw : writeTarget i with
    | none => rfl
    | some r => exact absurd h (kind_ne_read_of_writeTarget hw)
  · rintro rfl
    simp [encode] at h

/-- A read answers the same in two states that agree on what registers read. -/
theorem effect_read_congr {i : Instr} (hk : (encode i).kind = 0b00#2) {s t : State} (hs : s.guard = .free)
    (ht : t.guard = .free) (hval : ∀ r, (readReg r s).1 = (readReg r t).1) :
    ∃ a, (effect i s).responses = s.responses ++ [a] ∧ (effect i t).responses = t.responses ++ [a] := by
  obtain ⟨hwrite, hreset⟩ := readTarget_of_read hk
  cases effect_shape i with
  | read r width _ _ _ he => exact ⟨width (readReg r s).1, by simp [he], by simp [he, hval r]⟩
  | write r v _ hw _ he => simp [hw] at hwrite
  | miss k a _ _ _ he => exact ⟨a, by simp [he s hs], by simp [he t ht]⟩
  | reset hi _ _ he => exact absurd hi hreset

theorem exec_reset {s : State} (hs : s.Ready) : exec .reset s = .next ((resetBlock s).respond .ack) := by
  rw [exec_of_ready hs, effect, State.acknowledge_of_free ((resetBlock_guard s).trans hs.2)]

/-- Settles O49: RESET and construction agree on all that a read returns. -/
theorem readsAfterResetMatchConstruction : Obligations.ReadsAfterResetMatchConstruction := by
  unfold Obligations.ReadsAfterResetMatchConstruction
  intro s i hs hk
  have hguard : ((resetBlock s).respond .ack).guard = .free := by simp [hs.2]
  have hready : ((resetBlock s).respond .ack).Ready := ⟨by simpa using hs.1, hguard⟩
  have hval : ∀ r, (readReg r ((resetBlock s).respond .ack)).1 = (readReg r (State.construct s.params)).1 :=
    readReg_value_congr (by simp [State.construct]) rfl rfl rfl rfl rfl (by simp [State.construct])
  obtain ⟨a, hfirst, hsecond⟩ := effect_read_congr hk hguard (t := State.construct s.params) rfl hval
  refine ⟨effect i ((resetBlock s).respond .ack), effect i (State.construct s.params), a, ?_,
    exec_of_ready (s := State.construct s.params) ⟨hs.1, rfl⟩ i, ?_, hsecond⟩
  · rw [serveAll_cons_next (exec_reset hs), serveAll_cons_next (exec_of_ready hready i), serveAll]
  · rw [hfirst, State.respond_responses, resetBlock_responses, List.append_assoc]
    rfl

end Sys2Proof.Machine
end

section
/-! PROOFS. The lines (10_state.md R36 to R38, 42_line_reconciliation.md R110 to R118): pulses, Reconcile, and which
requests move a line. -/

namespace Sys2Proof.Machine

theorem Levels.get_set_same (l : Levels) (b : Bool) (line : Line) : (l.set b line).get line = b := by
  cases line <;> rfl

theorem Levels.get_set_of_ne {line other : Line} (h : other ≠ line) (l : Levels) (b : Bool) :
    (l.set b line).get other = l.get other := by
  cases line <;> cases other <;> simp_all

/-- Settles O31: the two calls of the pulse leave the line low and touch no other. -/
theorem pulseAssertsThenDeasserts : Obligations.PulseAssertsThenDeasserts := by
  unfold Obligations.PulseAssertsThenDeasserts
  intro s line
  have hevents : (s.linePulse line).events = s.events ++ [.lineOp line .assert, .lineOp line .deassert] := by
    simp [State.linePulse]
  have hlevels : (s.linePulse line).levels = (s.levels.set true line).set false line := rfl
  refine ⟨?_, ?_, fun other hne => ?_⟩
  · rw [← hevents]
    rfl
  · rw [hlevels, Levels.get_set_same]
  · rw [hlevels, Levels.get_set_of_ne hne, Levels.get_set_of_ne hne]

theorem State.irqCondition_eq (s : State) :
    s.irqCondition = (s.cr2.txeie || (!s.fifo.isEmpty && s.cr2.rxneie)) := rfl

/-- Settles O32: `State.reconcile_eq`, with the calls of the two halves written out. -/
theorem reconcileDrivesDmatxAndIrq : Obligations.ReconcileDrivesDmatxAndIrq := by
  unfold Obligations.ReconcileDrivesDmatxAndIrq
  intro s
  rw [State.reconcile_eq, irqCall, State.irqCondition_eq]
  cases ht : s.cr2.txdmaen <;> cases hl : s.levels.dmatx <;> simp [dmatxCalls, ht, hl]

/-- Settles O33: after the first run DMATX is at TXDMAEN and the condition of IRQ has not changed. -/
theorem reconcileIsIdempotentOnLevels : Obligations.ReconcileIsIdempotentOnLevels := by
  unfold Obligations.ReconcileIsIdempotentOnLevels
  intro s
  have hcond : s.reconcile.irqCondition = s.irqCondition := by simp only [State.reconcile_eq]; rfl
  have hcalls : dmatxCalls s.reconcile = if s.cr2.txdmaen = true then [] else [.lineOp .dmatx .deassert] := by
    cases ht : s.cr2.txdmaen <;> simp [dmatxCalls, State.reconcile_eq, ht]
  constructor
  · rw [State.reconcile_eq s.reconcile, hcond]
    simp [State.reconcile_eq]
  · rw [State.reconcile_eq s.reconcile, hcalls, irqCall, hcond]
    simp [State.reconcile_eq]

/-! ### Which requests set the lines (R113, R115) -/

theorem effect_of_readTarget {i : Instr} {r : Reg} (h : readTarget i = some r) :
    ∃ width : Word → Response, ∀ s, effect i s = (readReg r s).2.respond (width (readReg r s).1) := by
  cases effect_shape i with
  | read r' width hr _ _ he =>
    obtain rfl := Option.some.inj (hr.symm.trans h)
    exact ⟨width, he⟩
  | write r' v hr _ _ _ => simp [hr] at h
  | miss k a hr _ _ _ => simp [hr] at h
  | reset _ hr _ _ => simp [hr] at h

theorem effect_of_writeTarget {i : Instr} {r : Reg} (h : writeTarget i = some r) :
    ∃ v, ∀ s, effect i s = (writeReg r v s).acknowledge := by
  cases effect_shape i with
  | write r' v _ hw _ he =>
    obtain rfl := Option.some.inj (hw.symm.trans h)
    exact ⟨v, he⟩
  | read r' width _ hw _ _ => simp [hw] at h
  | miss k a _ hw _ _ => simp [hw] at h
  | reset _ _ hw _ => simp [hw] at h

/-- IRQ and DMATX are as Reconcile leaves them. -/
def Reconciled (t : State) : Prop := t.levels.irq = t.irqCondition ∧ t.levels.dmatx = t.cr2.txdmaen

theorem reconciled_readDr {s : State} (h : s.fifo ≠ []) : Reconciled (readDr s).2 := by
  simp only [Reconciled, readDr_levels, if_neg h, readDr_cr2, and_true, State.irqCondition_eq, readDr_fifo]

theorem reconciled_writeCr2 (v : Word) (s : State) : Reconciled (writeReg .cr2 v s) := by
  rw [Reconciled, writeCr2_levels, State.irqCondition_eq, State.irqCondition_eq, writeReg_cr2,
    writeReg_fifo_of_ne_dr (by decide)]
  exact ⟨rfl, rfl⟩

theorem isEmpty_fifoPush (cap : Nat) (fifo : List Byte) (b : Byte) : (fifoPush cap fifo b).isEmpty = false :=
  List.isEmpty_eq_false_iff.mpr (fifoPush_ne_nil cap fifo b)

theorem reconciled_slaveWrite {v : Word} {s : State} (hs : s.params.slave = .present)
    (hg : (writeDr v s).guard = .free) : Reconciled (writeDr v s) := by
  cases drWrite v s with
  | absent hs' hw => simp [hs'] at hs
  | returned rx hs' ha hw =>
    rw [hw]
    simp [Reconciled, levelsAfter_slaveWrite, State.irqCondition_eq, isEmpty_fifoPush]
  | stalled hs' ha hw => simp [hw] at hg

theorem exec_reconciled {i : Instr} {s t : State} (h : exec i s = .next t) (hg : t.guard = .free)
    (hr : reconciles i s) : Reconciled t := by
  obtain ⟨hs, rfl⟩ := exec_next h
  rcases hr with ⟨hr, hf⟩ | ⟨hw, hslave⟩ | hw
  · obtain ⟨width, he⟩ := effect_of_readTarget hr
    rw [he]
    exact reconciled_readDr hf
  · obtain ⟨v, he⟩ := effect_of_writeTarget hw
    rw [he] at hg ⊢
    rw [State.acknowledge_guard] at hg
    rw [State.acknowledge_eq]
    exact reconciled_slaveWrite hslave hg
  · obtain ⟨v, he⟩ := effect_of_writeTarget hw
    rw [he, State.acknowledge_eq]
    exact reconciled_writeCr2 v s

theorem exec_no_line_rises {i : Instr} {s t : State} (h : exec i s = .next t) (hr : ¬ reconciles i s)
    (line : Line) : t.levels.get line = true → s.levels.get line = true := by
  obtain ⟨es, ⟨-, hl⟩, hquiet⟩ := exec_emits h
  rw [hl]
  exact levelsAfter_le (hquiet hr) s.levels line

/-- Settles O34: Reconcile sets the two lines; the events of any other request assert none, so none rises. -/
theorem onlyReconcileAssertsLines : Obligations.OnlyReconcileAssertsLines := by
  unfold Obligations.OnlyReconcileAssertsLines
  intro i s t h hg
  refine ⟨fun hr => exec_reconciled h hg hr, fun hr => ?_⟩
  obtain ⟨es, ⟨hes, -⟩, hquiet⟩ := exec_emits h
  exact ⟨exec_no_line_rises h hr .irq, exec_no_line_rises h hr .dmatx, exec_no_line_rises h hr .dmarx,
    es, hes, hquiet hr⟩

/-! ### A swallowed interrupt (R172, R175) -/

/-- The block serves, its FIFO is empty and IRQ is low. -/
def Quiet (s : State) : Prop := s.Ready ∧ s.fifo = [] ∧ s.levels.irq = false

/-- A request that writes neither CR2 nor DR runs no Reconcile on an empty FIFO. -/
theorem quiet_exec {i : Instr} {s : State} (hs : Quiet s) (h2 : writeTarget i ≠ some .cr2)
    (hd : writeTarget i ≠ some .dr) : ∃ t, exec i s = .next t ∧ Quiet t := by
  obtain ⟨hready, hf, hirq⟩ := hs
  have h := exec_of_ready hready i
  have hno : ¬ reconciles i s := by
    rintro (⟨-, hne⟩ | ⟨hw, -⟩ | hw)
    · exact hne hf
    · exact hd hw
    · exact h2 hw
  refine ⟨_, h, ⟨exec_params h ▸ hready.1, ?_⟩, ?_, ?_⟩
  · rcases exec_guard_cases h with hg | ⟨-, hw, -⟩
    · exact hg
    · exact absurd hw hd
  · rcases exec_fifo_cases h with hf' | ⟨-, hf'⟩ | ⟨hw, -⟩ | ⟨-, hf'⟩
    · rw [hf', hf]
    · rw [hf', hf, List.tail_nil]
    · exact absurd hw hd
    · exact hf'
  · have hrise := exec_no_line_rises h hno .irq
    simpa [hirq] using hrise

/-- Settles O35: `Quiet` is kept by each request of the list. -/
theorem irqStaysLowUntilReconcile : Obligations.IrqStaysLowUntilReconcile := by
  unfold Obligations.IrqStaysLowUntilReconcile
  have hkeep : ∀ (is : List Instr) (s : State), Quiet s →
      (∀ i ∈ is, writeTarget i ≠ some .cr2 ∧ writeTarget i ≠ some .dr) →
      ∃ t, serveAll is s = .next t ∧ Quiet t := by
    intro is
    induction is with
    | nil => exact fun s hs _ => ⟨s, rfl, hs⟩
    | cons i is ih =>
      intro s hs hi
      obtain ⟨h2, hd⟩ := hi i List.mem_cons_self
      obtain ⟨u, hu, hq⟩ := quiet_exec hs h2 hd
      obtain ⟨t, ht, hqt⟩ := ih u hq fun j hj => hi j (List.mem_cons_of_mem _ hj)
      exact ⟨t, (serveAll_cons_next hu is).trans ht, hqt⟩
  intro is s hs hf hirq hi
  obtain ⟨t, ht, -, hft, hit⟩ := hkeep is s ⟨hs, hf, hirq⟩ hi
  exact ⟨t, ht, hit, hft⟩

end Sys2Proof.Machine
end

section
/-! PROOFS. Bus dispatch (40_bus_dispatch.md R91 to R97): the narrow accesses that are delegated, and the accesses
behind which there is no register. -/

namespace Sys2Proof.Machine

section
variable {s : State} (h : s.Ready) (off : Offset)
include h

/-! ### Delegated accesses -/

/-- The 16-bit read is the read dispatch, answered with its low half (R94). -/
theorem exec_rd16 :
    exec (.rd16 off) s =
      .next { (dwRead off s).2 with responses := s.responses ++ [.data16 (low16 (dwRead off s).1)] } := by
  rw [exec_of_ready h, effect, dwRead_respond]

/-- The 32-bit write at any offset is the write dispatch. -/
theorem exec_wideWrite (v : Word) : exec (wideWrite off v) s = .next (dwWrite off v s).acknowledge := by
  rw [exec_of_ready h, effect_wideWrite]

theorem exec_wr8Aligned (d : Byte) : exec (.wr8Aligned off d) s = .next (dwWrite off (0#24 ++ d) s).acknowledge := by
  rw [exec_of_ready h, effect, widen8_eq]

theorem exec_wr16 (d : Half) : exec (.wr16 off d) s = .next (dwWrite off (0#16 ++ d) s).acknowledge := by
  rw [exec_of_ready h, effect, widen16_eq]

/-! ### Accesses that miss every register -/

theorem exec_rd32Unbacked :
    exec (.rd32Unbacked off) s = .next
      { s with
        events := s.events ++ [.diag .warning (.unhandledRead off .bits32)]
        responses := s.responses ++ [.data32 0#32] } :=
  exec_of_ready h _

theorem exec_rd8Misaligned :
    exec (.rd8Misaligned off) s = .next
      { s with
        events := s.events ++ [.diag .warning (.unhandledRead off .bits8)]
        responses := s.responses ++ [.data8 0#8] } :=
  exec_of_ready h _

/-- A write that only warns is acknowledged: the warning leaves the guard free. -/
theorem acknowledge_diag (sev : Severity) (k : DiagKind) :
    (s.diag sev k).acknowledge =
      { s with events := s.events ++ [.diag sev k], responses := s.responses ++ [.ack] } :=
  State.acknowledge_of_free (s := s.diag sev k) h.2

theorem exec_wr32Unbacked (d : Word) :
    exec (.wr32Unbacked off d) s = .next
      { s with
        events := s.events ++ [.diag .warning (.unhandledWrite off .bits32 d)]
        responses := s.responses ++ [.ack] } := by
  rw [exec_of_ready h, effect, unhandledWrite, acknowledge_diag h]

theorem exec_wr8Misaligned (d : Byte) :
    exec (.wr8Misaligned off d) s = .next
      { s with
        events := s.events ++ [.diag .warning (.unhandledWrite off .bits8 (0#24 ++ d))]
        responses := s.responses ++ [.ack] } := by
  rw [exec_of_ready h, effect, widen8_eq, unhandledWrite, acknowledge_diag h]

/-- A 16-bit access goes through the 32-bit dispatch, which reports the width 32. -/
theorem exec_rd16_of_unbacked (hoff : Reg.ofOffset off = none) :
    exec (.rd16 off) s = .next
      { s with
        events := s.events ++ [.diag .warning (.unhandledRead off .bits32)]
        responses := s.responses ++ [.data16 0#16] } := by
  rw [exec_rd16 h, dwRead_eq, hoff]
  rfl

theorem exec_wr16_of_unbacked (hoff : Reg.ofOffset off = none) (d : Half) :
    exec (.wr16 off d) s = .next
      { s with
        events := s.events ++ [.diag .warning (.unhandledWrite off .bits32 (0#16 ++ d))]
        responses := s.responses ++ [.ack] } := by
  rw [exec_wr16 h, dwWrite_eq, hoff]
  exact congrArg _ (acknowledge_diag h ..)

end

/-- No register lies behind 0x0D, 0x0E and 0x0F (R51). -/
theorem ofOffset_inside_dr {off : Offset} (hlo : 0x0D#10 ≤ off) (hhi : off ≤ 0x0F#10) :
    Reg.ofOffset off = none := by
  have hoff : off = 0x0D#10 ∨ off = 0x0E#10 ∨ off = 0x0F#10 := by bv_omega
  rcases hoff with rfl | rfl | rfl <;> rfl

/-! ### The obligations -/

/-- Settles O14: both requests run the read dispatch once and differ only in the response they record. -/
theorem halfReadDelegates : Obligations.HalfReadDelegates := by
  unfold Obligations.HalfReadDelegates
  intro s off h
  exact ⟨(dwRead off s).2, (dwRead off s).1, exec_wideRead h off, exec_rd16 h off⟩

/-- Settles O15: both requests run the write dispatch on the zero-extended operand. -/
theorem narrowWritesDelegateZeroExtended : Obligations.NarrowWritesDelegateZeroExtended := by
  unfold Obligations.NarrowWritesDelegateZeroExtended
  exact fun s off h => ⟨fun d _ => ⟨_, exec_wideWrite h off _, exec_wr8Aligned h off d⟩,
    fun d => ⟨_, exec_wideWrite h off _, exec_wr16 h off d⟩⟩

/-- Settles O16: the alignment premise is the request's own; its effect is the warning. -/
theorem misalignedByteReadOnlyWarns : Obligations.MisalignedByteReadOnlyWarns := by
  unfold Obligations.MisalignedByteReadOnlyWarns
  exact fun _ off h _ => exec_rd8Misaligned h off

/-- Settles O17: the alignment premise is the request's own; its effect is the warning. -/
theorem misalignedByteWriteOnlyWarns : Obligations.MisalignedByteWriteOnlyWarns := by
  unfold Obligations.MisalignedByteWriteOnlyWarns
  exact fun _ off d h _ => exec_wr8Misaligned h off d

/-- Settles O18: the premise on the offset is the request's own; its effect is the warning. -/
theorem unbackedReadOnlyWarns : Obligations.UnbackedReadOnlyWarns := by
  unfold Obligations.UnbackedReadOnlyWarns
  exact fun _ off h _ => exec_rd32Unbacked h off

/-- Settles O19: the premise on the offset is the request's own; its effect is the warning. -/
theorem unbackedWriteOnlyWarns : Obligations.UnbackedWriteOnlyWarns := by
  unfold Obligations.UnbackedWriteOnlyWarns
  exact fun _ off d h _ => exec_wr32Unbacked h off d

/-- Settles O20: at the three offsets each width misses every register. -/
theorem accessesInsideDrTransferNothing : Obligations.AccessesInsideDrTransferNothing := by
  unfold Obligations.AccessesInsideDrTransferNothing
  intro s off h hlo hhi
  have hoff := ofOffset_inside_dr hlo hhi
  constructor
  · intro i r hi
    simp only [List.mem_cons, Prod.mk.injEq, List.not_mem_nil, or_false] at hi
    rcases hi with ⟨rfl, rfl⟩ | ⟨rfl, rfl⟩ | ⟨rfl, rfl⟩
    · exact ⟨_, exec_rd8Misaligned h off⟩
    · exact ⟨_, exec_rd16_of_unbacked h off hoff⟩
    · exact ⟨_, exec_rd32Unbacked h off⟩
  · intro d8 d16 d32 i hi
    simp only [List.mem_cons, List.not_mem_nil, or_false] at hi
    rcases hi with rfl | rfl | rfl
    · exact ⟨_, exec_wr8Misaligned h off d8⟩
    · exact ⟨_, exec_wr16_of_unbacked h off hoff d16⟩
    · exact ⟨_, exec_wr32Unbacked h off d32⟩

end Sys2Proof.Machine
end

section
/-! PROOFS. The data path (41_data_path.md R100 to R107): what one DR read and one DR write do, and what lists of them
do. -/

namespace Sys2Proof.Machine

/-! ### One DR read (R100) -/

/-- Settles O21: the two ways the read path can go. -/
theorem dataReadTakesOldestByte : Obligations.DataReadTakesOldestByte := by
  unfold Obligations.DataReadTakesOldestByte
  intro s h
  refine ⟨fun hf => ?_, fun b rest hf => ?_⟩
  · rw [exec_of_ready h, effect, readDr_empty hf]
    rfl
  · rw [exec_of_ready h, effect, readDr_cons hf, ← widen8_eq]
    rfl

theorem readDr_value_lt (s : State) : (readDr s).1.toNat < 0x100 := by
  cases h : s.fifo with
  | nil => simp [readDr_empty h]
  | cons b rest =>
    have hb := b.isLt
    simp [readDr_cons h]
    omega

/-! ### One DR write (R101 to R104) -/

theorem exec_wr32Dr {s : State} (h : s.Ready) (v : Word) : exec (.wr32Dr v) s = .next (writeDr v s).acknowledge :=
  exec_of_ready h _

/-- Settles O22: with no slave the write path enqueues 0 and warns. -/
theorem dataWriteWithoutSlaveEnqueuesZero : Obligations.DataWriteWithoutSlaveEnqueuesZero := by
  unfold Obligations.DataWriteWithoutSlaveEnqueuesZero
  intro s v h hs
  have hfree : (writeDr v s).guard = .free := by
    rw [writeDr_of_absent hs]
    exact h.2
  rw [exec_wr32Dr h, State.acknowledge_of_free hfree, writeDr_of_absent hs]
  rfl

theorem slaveReturned_eq_reconcile (tx rx : Byte) (u : State) :
    slaveReturned tx rx u =
      State.reconcile
        { u with
          fifo := fifoPush u.params.cap u.fifo rx
          levels := { u.levels with dmarx := if u.cr2.rxdmaen then false else u.levels.dmarx }
          events := u.events ++ [.xfer tx rx] ++
            (if u.cr2.rxdmaen then [.lineOp .dmarx .assert, .lineOp .dmarx .deassert] else []) } := by
  cases hr : u.cr2.rxdmaen <;>
    simp [slaveReturned, hr, State.emit, State.enqueue, State.linePulse, State.lineAssert, State.lineDeassert,
      State.setLevel]

/-- Settles O23: the two answers of the slave; the lines of the first are those of `levelsAfter_slaveWrite`. -/
theorem dataWriteWithSlaveExchanges : Obligations.DataWriteWithSlaveExchanges := by
  unfold Obligations.DataWriteWithSlaveExchanges
  intro s u v h hs hu
  have hu' : u = beforeExchange s := hu.trans (beforeExchange_eq s).symm
  subst hu'
  refine ⟨fun rx ha => ?_, fun ha => ?_⟩
  · have hw := writeDr_of_byte hs ha
    have hfree : (writeDr v s).guard = .free := by simp [hw, h.2]
    refine ⟨_, (exec_wr32Dr h v).trans (congrArg _ (State.acknowledge_of_free hfree)), ?_, ?_, ?_⟩
    · rw [writeDr_byte hs (by rwa [low8_low16]), low8_low16, slaveReturned_eq_reconcile]
      simp [beforeExchange, fifoPush]
    · simp [hw, levelsAfter_slaveWrite]
    · simp [hw, levelsAfter_slaveWrite]
  · have hw := writeDr_of_stall hs ha
    rw [exec_wr32Dr h, State.acknowledge_of_held (by simp [hw]), hw, beforeExchange_eq, State.takeAnswer_emitAll]
    rfl

/-- A slave write depends on the low byte of the value alone (R104). -/
theorem writeDr_congr {s : State} {v w : Word} (hs : s.params.slave = .present)
    (h : v.extractLsb' 0 8 = w.extractLsb' 0 8) : writeDr v s = writeDr w s := by
  cases drWrite v s with
  | absent hs' hw => simp [hs] at hs'
  | returned rx _ ha hw => rw [hw, writeDr_of_byte hs (h ▸ ha), h]
  | stalled _ ha hw => rw [hw, writeDr_of_stall hs (h ▸ ha)]

/-- Settles O24: the write is a function of the low byte, and the read is one byte zero-extended. -/
theorem onlyTheLowByteIsTransferred : Obligations.OnlyTheLowByteIsTransferred := by
  unfold Obligations.OnlyTheLowByteIsTransferred
  refine ⟨fun s v w h hs hvw => ?_, fun s h => ?_⟩
  · refine ⟨_, exec_wr32Dr h v, writeDr_congr hs hvw ▸ exec_wr32Dr h w, fun hg => ?_⟩
    cases drWrite v s with
    | absent hs' hw => simp [hs] at hs'
    | returned rx _ ha hw =>
      exact ⟨rx, (returnEvents (v.extractLsb' 0 8) rx (beforeExchange s)).tail,
        by simp [hw, exchangeEvents, returnEvents]⟩
    | stalled _ ha hw => simp [hw] at hg
  · exact ⟨_, _, exec_of_ready h _, by rw [effect, State.respond_responses, readDr_responses], readDr_value_lt s⟩

/-! ### Diagnostics (R106) -/

theorem diag_not_mem_reconcileEvents (s : State) (sev : Severity) (k : DiagKind) :
    Event.diag sev k ∉ reconcileEvents s := by
  unfold reconcileEvents dmatxCalls irqCall
  cases s.cr2.txdmaen <;> cases s.levels.dmatx <;> simp

theorem diag_not_mem_drReadEvents (s : State) (sev : Severity) (k : DiagKind) :
    Event.diag sev k ∉ drReadEvents s := by
  unfold drReadEvents
  split
  · simp
  · simp [diag_not_mem_reconcileEvents]

theorem diag_not_mem_returnEvents (tx rx : Byte) (u : State) (sev : Severity) (k : DiagKind) :
    Event.diag sev k ∉ returnEvents tx rx u := by
  unfold returnEvents dmatxCalls
  cases u.cr2.rxdmaen <;> cases u.cr2.txdmaen <;> cases u.levels.dmatx <;> simp

/-- Settles O25: of the events of the data path only those of a write with no slave hold a diagnostic. -/
theorem dataPathOnlyWarnsOfNoSlave : Obligations.DataPathOnlyWarnsOfNoSlave := by
  unfold Obligations.DataPathOnlyWarnsOfNoSlave
  intro i s h htarget
  refine ⟨effect i s, ?_⟩
  rcases htarget with hr | hw
  · obtain ⟨width, he⟩ := effect_of_readTarget hr
    refine ⟨drReadEvents s, exec_of_ready h i, ?_, fun sev k hm => ?_⟩
    · rw [he, State.respond_events]
      exact (emits_readDr s).1
    · exact absurd hm (diag_not_mem_drReadEvents s sev k)
  · obtain ⟨v, he⟩ := effect_of_writeTarget hw
    cases drWrite v s with
    | absent hs hd =>
      refine ⟨noSlaveEvents v, exec_of_ready h i, by simp [he, writeReg, hd], fun sev k hm => ?_⟩
      obtain ⟨hsev, hk⟩ : sev = .warning ∧ k = .noSlave (v.extractLsb' 0 16) := by
        simpa [noSlaveEvents] using hm
      exact ⟨hw, hs, hsev, _, hk⟩
    | returned rx hs ha hd =>
      refine ⟨exchangeEvents ++ returnEvents (v.extractLsb' 0 8) rx (beforeExchange s), exec_of_ready h i,
        by simp [he, writeReg, hd], fun sev k hm => ?_⟩
      simp [exchangeEvents, diag_not_mem_returnEvents] at hm
    | stalled hs ha hd =>
      refine ⟨exchangeEvents, exec_of_ready h i, by simp [he, writeReg, hd], fun sev k hm => ?_⟩
      simp [exchangeEvents] at hm

/-! ### Lists of DR writes (R107) -/

/-- The last `cap` bytes of a list: what a FIFO of that capacity holds once the list went through it. -/
def lastBytes (cap : Nat) (bs : List Byte) : List Byte := bs.drop (bs.length - cap)

/-- Evicting the oldest byte of a full FIFO keeps the last bytes (R33). -/
theorem fifoPush_lastBytes {cap : Nat} (hcap : 1 ≤ cap) (bs : List Byte) (b : Byte) :
    fifoPush cap (lastBytes cap bs) b = lastBytes cap (bs ++ [b]) := by
  unfold fifoPush lastBytes
  rw [List.length_drop, List.length_append, List.length_singleton]
  by_cases h : cap ≤ bs.length
  · rw [if_pos (by omega), List.drop_drop, List.drop_append_of_le_length (by omega)]
    congr 2
    omega
  · rw [if_neg (by omega), List.drop_append_of_le_length (by omega)]
    congr 2
    omega

section
variable {s : State} (h : s.Ready) (v : Word)
include h

/-- One write with no slave (R102). -/
theorem exec_write_absent (hs : s.params.slave = .absent) :
    ∃ t, exec (.wr32Dr v) s = .next t ∧ t.Ready ∧ t.params = s.params ∧
      t.fifo = fifoPush s.params.cap s.fifo 0x00#8 := by
  have hw := writeDr_of_absent (v := v) hs
  exact ⟨_, exec_wr32Dr h v, by simpa [State.Ready, hw] using h, by simp, by simp [hw]⟩

/-- One write to a slave that answers the first byte of its script (R103). -/
theorem exec_write_answered (hs : s.params.slave = .present) {b : Byte} {later : List SlaveAnswer}
    (hscript : s.slaveScript = .byte b :: later) :
    ∃ t, exec (.wr32Dr v) s = .next t ∧ t.Ready ∧ t.params = s.params ∧
      t.fifo = fifoPush s.params.cap s.fifo b ∧ t.slaveScript = later := by
  have ha : (beforeExchange s).slaveAnswer (v.extractLsb' 0 8) = .byte b := by
    simp [State.slaveAnswer, beforeExchange, hscript]
  have htake : s.takeAnswer.slaveScript = later := by simp [State.takeAnswer, hscript]
  have hw := writeDr_of_byte hs ha
  exact ⟨_, exec_wr32Dr h v, by simpa [State.Ready, hw] using h, by simp, by simp [hw], by simp [hw, htake]⟩

end

/-- Writes with no slave push one zero each (R102, R107). -/
theorem serveAll_writes_absent (vs : List Word) (bs : List Byte) (s : State) (h : s.Ready)
    (hs : s.params.slave = .absent) (hf : s.fifo = lastBytes s.params.cap bs) :
    ∃ t, serveAll (vs.map Instr.wr32Dr) s = .next t ∧
      t.fifo = lastBytes s.params.cap (bs ++ List.replicate vs.length 0x00#8) := by
  induction vs generalizing bs s with
  | nil => exact ⟨s, rfl, by simpa using hf⟩
  | cons v vs ih =>
    obtain ⟨u, hu, hready, hp, huf⟩ := exec_write_absent h v hs
    rw [hf, fifoPush_lastBytes h.1.1, ← hp] at huf
    obtain ⟨t, ht, htf⟩ := ih (bs ++ [0x00#8]) u hready (hp ▸ hs) huf
    refine ⟨t, (serveAll_cons_next hu _).trans ht, ?_⟩
    rw [htf, hp, List.append_assoc, List.length_cons, List.replicate_succ, List.singleton_append]

/-- Settles O26: the last bytes of as many zeros as there were writes. -/
theorem writesWithoutSlaveFillWithZeros : Obligations.WritesWithoutSlaveFillWithZeros := by
  unfold Obligations.WritesWithoutSlaveFillWithZeros
  intro vs s h hs hf
  obtain ⟨t, ht, htf⟩ := serveAll_writes_absent vs [] s h hs (by simp [hf, lastBytes])
  refine ⟨t, ht, ?_⟩
  rw [htf, List.nil_append, lastBytes, List.drop_replicate, List.length_replicate]
  congr 1
  omega

/-- Writes to a slave that answers push the answers (R103, R107). -/
theorem serveAll_writes_answered (vs : List Word) (bs new : List Byte) (later : List SlaveAnswer) (s : State)
    (h : s.Ready) (hs : s.params.slave = .present) (hf : s.fifo = lastBytes s.params.cap bs)
    (hlen : vs.length = new.length) (hscript : s.slaveScript = new.map SlaveAnswer.byte ++ later) :
    ∃ t, serveAll (vs.map Instr.wr32Dr) s = .next t ∧ t.fifo = lastBytes s.params.cap (bs ++ new) ∧
      t.slaveScript = later ∧ t.guard = .free := by
  induction vs generalizing bs new s with
  | nil =>
    obtain rfl := List.length_eq_zero_iff.mp hlen.symm
    exact ⟨s, rfl, by simpa using hf, by simpa using hscript, h.2⟩
  | cons v vs ih =>
    cases new with
    | nil => simp at hlen
    | cons b new =>
      obtain ⟨u, hu, hready, hp, huf, hus⟩ := exec_write_answered h v hs hscript
      rw [hf, fifoPush_lastBytes h.1.1, ← hp] at huf
      obtain ⟨t, ht, htf, hts, htg⟩ := ih (bs ++ [b]) new u hready (hp ▸ hs) huf (Nat.succ.inj hlen) hus
      refine ⟨t, (serveAll_cons_next hu _).trans ht, ?_, hts, htg⟩
      rw [htf, hp, List.append_assoc, List.singleton_append]

/-- Settles O27: the last bytes of the slave's answers. -/
theorem writesWithSlaveKeepTheLastBytes : Obligations.WritesWithSlaveKeepTheLastBytes := by
  unfold Obligations.WritesWithSlaveKeepTheLastBytes
  intro vs bs later s h hs hf hlen hscript
  exact serveAll_writes_answered vs [] bs later s h hs (by simp [hf, lastBytes]) hlen hscript

/-! ### Lists of DR reads (R34, R107) -/

/-- One read of a FIFO that is not empty. -/
theorem exec_read_cons {s : State} (h : s.Ready) {b : Byte} {rest : List Byte} (hf : s.fifo = b :: rest) :
    ∃ t, exec .rd32Dr s = .next t ∧ t.Ready ∧ t.fifo = rest ∧
      t.responses = s.responses ++ [.data32 (0#24 ++ b)] := by
  have hvalue : (readDr s).1 = 0#24 ++ b := by rw [readDr_cons hf, ← widen8_eq, widen8]
  have hguard : (readDr s).2.guard = s.guard := readReg_guard .dr s
  exact ⟨_, exec_of_ready h .rd32Dr, by simpa [State.Ready, effect, hguard] using h,
    by simp [effect, readDr_fifo, hf], by simp [effect, hvalue]⟩

/-- Settles O28, by induction on the bytes in the FIFO. -/
theorem readsReturnBytesInOrder : Obligations.ReadsReturnBytesInOrder := by
  unfold Obligations.ReadsReturnBytesInOrder
  intro s h
  induction hf : s.fifo generalizing s with
  | nil => exact ⟨s, rfl, hf, by simp⟩
  | cons b rest ih =>
    obtain ⟨u, hu, hready, huf, hur⟩ := exec_read_cons h hf
    obtain ⟨t, ht, htf, htr⟩ := ih u hready huf
    refine ⟨t, (serveAll_cons_next hu _).trans ht, htf, ?_⟩
    rw [htr, hur, List.map_cons, List.append_assoc, List.singleton_append]

/-! ### The edges a slave write shows on DMATX (R37, R103) -/

/-- The edges of DMATX among the edges of a list of events. -/
def dmatxEdges (l : Levels) (es : List Event) : List (Line × LineOp) :=
  (edges l es).filter (fun e => e.1 == .dmatx)

theorem Levels.set_get (l : Levels) (line : Line) : l.set (l.get line) line = l := by cases line <;> rfl

/-- A call on another line shows no edge of DMATX, whether it is an edge or not. -/
theorem dmatxEdges_cons_other {line : Line} (h : line ≠ .dmatx) (l : Levels) (op : LineOp) (es : List Event) :
    dmatxEdges l (.lineOp line op :: es) = dmatxEdges (l.set (decide (op = .assert)) line) es := by
  unfold dmatxEdges
  rw [edges]
  split
  next heq => rw [← heq, Levels.set_get]
  next => rw [List.filter_cons_of_neg (by simpa using h)]

theorem dmatxEdges_nil (l : Levels) : dmatxEdges l [] = [] := rfl

theorem dmatxEdges_cons_xfer (l : Levels) (tx rx : Byte) (es : List Event) :
    dmatxEdges l (.xfer tx rx :: es) = dmatxEdges l es := rfl

/-- A call on DMATX that moves it is an edge. -/
theorem dmatxEdges_cons_edge {l : Levels} {op : LineOp} (h : l.dmatx ≠ decide (op = .assert)) (es : List Event) :
    dmatxEdges l (.lineOp .dmatx op :: es) =
      (.dmatx, op) :: dmatxEdges { l with dmatx := decide (op = .assert) } es := by
  unfold dmatxEdges
  rw [edges, Levels.get_dmatx, if_neg h, List.filter_cons_of_pos (by rfl), Levels.set_dmatx]

/-- A call on DMATX that does not move it is none. -/
theorem dmatxEdges_cons_level {l : Levels} {op : LineOp} (h : l.dmatx = decide (op = .assert)) (es : List Event) :
    dmatxEdges l (.lineOp .dmatx op :: es) = dmatxEdges l es := by
  unfold dmatxEdges
  rw [edges, Levels.get_dmatx, if_pos h]

/-- Before the exchange DMATX falls; after it Reconcile deasserts the low line once more and then raises it. -/
theorem dmatxEdges_slaveWrite {s : State} (ht : s.cr2.txdmaen = true) (hl : s.levels.dmatx = true) (tx rx : Byte) :
    dmatxEdges s.levels (exchangeEvents ++ returnEvents tx rx (beforeExchange s)) =
      [(.dmatx, .deassert), (.dmatx, .assert)] := by
  have hcalls : dmatxCalls (beforeExchange s) = [.lineOp .dmatx .deassert, .lineOp .dmatx .assert] := by
    simp [dmatxCalls, beforeExchange, ht]
  simp only [exchangeEvents, returnEvents, hcalls]
  cases hr : (beforeExchange s).cr2.rxdmaen <;>
    simp [dmatxEdges_nil, dmatxEdges_cons_other, dmatxEdges_cons_xfer, dmatxEdges_cons_edge, dmatxEdges_cons_level,
      hl]

/-- Settles O36: only a completed exchange leaves the guard free. -/
theorem slaveWriteRefreshesDmatx : Obligations.SlaveWriteRefreshesDmatx := by
  unfold Obligations.SlaveWriteRefreshesDmatx
  intro i s t hs ht hl hw h hg
  obtain ⟨-, rfl⟩ := exec_next h
  obtain ⟨v, he⟩ := effect_of_writeTarget hw
  rw [he, State.acknowledge_guard, writeReg] at hg
  cases drWrite v s with
  | absent hs' hd => simp [hs] at hs'
  | returned rx _ ha hd =>
    exact ⟨exchangeEvents ++ returnEvents (v.extractLsb' 0 8) rx (beforeExchange s), by simp [he, writeReg, hd],
      dmatxEdges_slaveWrite ht hl _ rx⟩
  | stalled _ ha hd => simp [hd] at hg

end Sys2Proof.Machine
end

section
/-! PROOFS. Register operations (43_register_operations.md R120 to R139), RESET and construction
(70_reset_and_hazards.md R170, 10_state.md R46). -/

namespace Sys2Proof.Machine

/-! ### The bits of the images (R22, R24, R25) -/

/-- Where each field of CR1 stands; bits 31:16 are reserved. -/
theorem Cr1.image_fields (c : Cr1) :
    c.image.getLsbD 0 = c.cpha ∧ c.image.getLsbD 1 = c.cpol ∧ c.image.getLsbD 2 = c.mstr ∧
      c.image.extractLsb' 3 3 = c.br ∧ c.image.getLsbD 6 = c.spe ∧ c.image.getLsbD 7 = c.lsbfirst ∧
      c.image.getLsbD 8 = c.ssi ∧ c.image.getLsbD 9 = c.ssm ∧ c.image.getLsbD 10 = c.rxonly ∧
      c.image.getLsbD 11 = c.dff ∧ c.image.getLsbD 12 = c.crcnext ∧ c.image.getLsbD 13 = c.crcen ∧
      c.image.getLsbD 14 = c.bidioe ∧ c.image.getLsbD 15 = c.bidimode ∧ c.image.extractLsb' 16 16 = 0#16 := by
  refine ⟨?_, ?_, ?_, c.extract_br, ?_, ?_, ?_, ?_, ?_, ?_, ?_, ?_, ?_, ?_, c.extract_reserved⟩ <;>
    simp only [Cr1.getLsbD_image, BitVec.getLsbD_append, BitVec.getLsbD_ofBool] <;> simp

theorem Cr2.getLsbD_image (c : Cr2) (i : Nat) :
    c.image.getLsbD i =
      (decide (i < 32) &&
        (c.vrf ++ BitVec.ofBool c.txeie ++ BitVec.ofBool c.rxneie ++ BitVec.ofBool c.errie ++ BitVec.ofBool c.frf
          ++ 0#1 ++ BitVec.ofBool c.ssoe ++ BitVec.ofBool c.txdmaen ++ BitVec.ofBool c.rxdmaen).getLsbD i) := by
  simp only [Cr2.image, BitVec.getLsbD_setWidth]

theorem Cr2.extract_vrf (c : Cr2) : c.image.extractLsb' 8 5 = c.vrf := by
  apply BitVec.eq_of_getLsbD_eq
  intro i hi
  simp only [BitVec.getLsbD_extractLsb', Cr2.getLsbD_image, BitVec.getLsbD_append, BitVec.getLsbD_ofBool]
  interval_cases i <;> simp

theorem Cr2.extract_reserved (c : Cr2) : c.image.extractLsb' 13 19 = 0#19 := by
  apply BitVec.eq_of_getLsbD_eq
  intro i hi
  rw [BitVec.getLsbD_extractLsb', Cr2.getLsbD_image, BitVec.getLsbD_of_ge _ (13 + i) (by simp)]
  simp

/-- Where each field of CR2 stands; bit 3 and bits 31:13 are reserved. -/
theorem Cr2.image_fields (c : Cr2) :
    c.image.getLsbD 0 = c.rxdmaen ∧ c.image.getLsbD 1 = c.txdmaen ∧ c.image.getLsbD 2 = c.ssoe ∧
      c.image.getLsbD 3 = false ∧ c.image.getLsbD 4 = c.frf ∧ c.image.getLsbD 5 = c.errie ∧
      c.image.getLsbD 6 = c.rxneie ∧ c.image.getLsbD 7 = c.txeie ∧ c.image.extractLsb' 8 5 = c.vrf ∧
      c.image.extractLsb' 13 19 = 0#19 := by
  refine ⟨?_, ?_, ?_, ?_, ?_, ?_, ?_, ?_, c.extract_vrf, c.extract_reserved⟩ <;>
    simp only [Cr2.getLsbD_image, BitVec.getLsbD_append, BitVec.getLsbD_ofBool] <;> simp

theorem State.rxne_iff (s : State) : s.rxne = true ↔ 0 < s.fifo.length := by
  simp [State.rxne, List.length_pos_iff]

theorem State.getLsbD_srImage (s : State) (i : Nat) :
    s.srImage.getLsbD i =
      (decide (i < 32) && (s.params.rvSrTag ++ BitVec.ofBool txe ++ BitVec.ofBool s.rxne).getLsbD i) := by
  simp only [State.srImage, BitVec.getLsbD_setWidth]

theorem State.extract_srTag (s : State) : s.srImage.extractLsb' 2 7 = s.params.rvSrTag := by
  apply BitVec.eq_of_getLsbD_eq
  intro i hi
  simp only [BitVec.getLsbD_extractLsb', State.getLsbD_srImage, BitVec.getLsbD_append, BitVec.getLsbD_ofBool]
  interval_cases i <;> simp

theorem State.extract_srReserved (s : State) : s.srImage.extractLsb' 9 23 = 0#23 := by
  apply BitVec.eq_of_getLsbD_eq
  intro i hi
  rw [BitVec.getLsbD_extractLsb', State.getLsbD_srImage, BitVec.getLsbD_of_ge _ (9 + i) (by simp)]
  simp

/-- Where each field of SR stands; bits 31:9 are reserved. -/
theorem State.srImage_fields (s : State) :
    s.srImage.getLsbD 0 = s.rxne ∧ s.srImage.getLsbD 1 = true ∧ s.srImage.extractLsb' 2 7 = s.params.rvSrTag ∧
      s.srImage.extractLsb' 9 23 = 0#23 := by
  refine ⟨?_, ?_, s.extract_srTag, s.extract_srReserved⟩ <;>
    simp only [State.getLsbD_srImage, BitVec.getLsbD_append, BitVec.getLsbD_ofBool] <;> simp [txe]

/-- SR with an empty FIFO: the tag, TXE and nothing else. -/
theorem State.srImage_of_empty {s : State} (h : s.fifo = []) :
    s.srImage = 0#23 ++ s.params.rvSrTag ++ 0b10#2 := by
  have hrxne : s.rxne = false := by simp [State.rxne, h]
  apply BitVec.eq_of_getLsbD_eq
  intro i hi
  simp only [State.getLsbD_srImage, hrxne, BitVec.getLsbD_append, BitVec.getLsbD_ofBool]
  interval_cases i <;> simp [txe]

/-! ### Register reads: a response and nothing else -/

section
variable {s : State} (h : s.Ready)
include h

theorem exec_rd32Cr1 : exec .rd32Cr1 s = .next { s with responses := s.responses ++ [.data32 s.cr1.image] } :=
  exec_of_ready h _

theorem exec_rd32Cr2 : exec .rd32Cr2 s = .next { s with responses := s.responses ++ [.data32 s.cr2.image] } :=
  exec_of_ready h _

theorem exec_rd32Sr : exec .rd32Sr s = .next { s with responses := s.responses ++ [.data32 s.srImage] } :=
  exec_of_ready h _

theorem exec_rd32Crcpr : exec .rd32Crcpr s = .next { s with responses := s.responses ++ [.data32 s.crcpr] } :=
  exec_of_ready h _

theorem exec_rd32I2scfgr : exec .rd32I2scfgr s = .next { s with responses := s.responses ++ [.data32 s.i2scfgr] } :=
  exec_of_ready h _

theorem exec_rd32I2spr : exec .rd32I2spr s = .next { s with responses := s.responses ++ [.data32 s.i2spr] } :=
  exec_of_ready h _

end

/-- Settles O37: the value is `CR1_image`. -/
theorem control1ReadsItsFields : Obligations.Control1ReadsItsFields := by
  unfold Obligations.Control1ReadsItsFields
  exact fun s h => ⟨s.cr1.image, exec_rd32Cr1 h, s.cr1.image_fields⟩

/-- Settles O38: the value is `CR2_image`. -/
theorem control2ReadsItsFields : Obligations.Control2ReadsItsFields := by
  unfold Obligations.Control2ReadsItsFields
  exact fun s h => ⟨s.cr2.image, exec_rd32Cr2 h, s.cr2.image_fields⟩

/-- Settles O39: the value is `SR_image`, and RXNE says whether the FIFO holds a byte. -/
theorem statusReadsComputedFlags : Obligations.StatusReadsComputedFlags := by
  unfold Obligations.StatusReadsComputedFlags
  intro s h
  obtain ⟨hrxne, hfields⟩ := s.srImage_fields
  exact ⟨s.srImage, exec_rd32Sr h, hrxne ▸ s.rxne_iff, hfields⟩

/-- Settles O41: three reads of stored values. -/
theorem inertRegistersReadStoredValues : Obligations.InertRegistersReadStoredValues := by
  unfold Obligations.InertRegistersReadStoredValues
  exact fun s h => ⟨exec_rd32Crcpr h, exec_rd32I2scfgr h, exec_rd32I2spr h⟩

/-! ### Register writes: what `writeReg_eq` says of each, acknowledged -/

/-- A write of a register other than DR stores, emits and is acknowledged. -/
theorem writeReg_acknowledge {r : Reg} (hd : r ≠ .dr) {s : State} (h : s.Ready) (v : Word) :
    (writeReg r v s).acknowledge =
      { storeReg r v s with
        levels := (writeReg r v s).levels
        events := s.events ++ writeEvents r v s
        responses := s.responses ++ [.ack] } := by
  have hfree : (writeReg r v s).guard = .free := (writeReg_guard_of_ne_dr hd v s).trans h.2
  rw [State.acknowledge_of_free hfree, writeReg_eq hd]
  cases r <;> rfl

/-- The tagged bits are reported exactly when there are any (R138). -/
theorem inertEvents_eq (r : Reg) (v : Word) :
    inertEvents r v =
      if v &&& tagged r ≠ 0#32 then [.diag .debug (.inertWrite r.offset (v &&& tagged r))] else [] := by
  rw [inertEvents, ite_not]

/-- A register whose every bit is tagged reports what was written (R138). -/
theorem inertEvents_of_all_tagged {r : Reg} (h : tagged r = 0xFFFFFFFF#32) (v : Word) :
    inertEvents r v = if v ≠ 0#32 then [.diag .debug (.inertWrite r.offset v)] else [] := by
  have hand : v &&& 0xFFFFFFFF#32 = v := BitVec.and_allOnes
  rw [inertEvents_eq, h, hand]

section
variable {s : State} (h : s.Ready) (v : Word)
include h

theorem exec_wr32Cr1 :
    exec (.wr32Cr1 v) s = .next
      { s with
        cr1 := Cr1.ofWord v
        levels := { s.levels with irq := if s.cr1.spe = true ∧ v.getLsbD 6 = false then false else s.levels.irq }
        events := s.events ++ writeEvents .cr1 v s
        responses := s.responses ++ [.ack] } := by
  rw [exec_of_ready h]
  refine congrArg _ ((writeReg_acknowledge (r := .cr1) (by decide) h v).trans ?_)
  rw [writeCr1_levels]
  rfl

/-- A write of a register without fields of its own moves no line. -/
theorem exec_write_inert {r : Reg} {i : Instr} (hi : ∀ u, effect i u = (writeReg r v u).acknowledge)
    (h1 : r ≠ .cr1) (h2 : r ≠ .cr2) (hd : r ≠ .dr) :
    exec i s = .next
      { storeReg r v s with
        events := s.events ++ writeEvents r v s
        responses := s.responses ++ [.ack] } := by
  rw [exec_of_ready h, hi, writeReg_acknowledge hd h, writeReg_levels_of_inert h1 h2 hd, ← storeReg_levels r v s]

end

/-- Settles O42: `writeReg_eq` for CR1, with its three groups of events written out. -/
theorem control1WriteStoresAndWarns : Obligations.Control1WriteStoresAndWarns := by
  unfold Obligations.Control1WriteStoresAndWarns
  intro s v h
  have hevents : writeEvents .cr1 v s =
      (if v.getLsbD 2 = false then [.diag .warning .masterCleared] else []) ++
        (if s.cr1.spe = true ∧ v.getLsbD 6 = false then [.lineOp .irq .deassert] else []) ++
        (if v &&& 0x0000FC00#32 ≠ 0#32
          then [.diag .debug (.inertWrite 0x00#10 (v &&& 0x0000FC00#32))] else []) := by
    rw [writeEvents, inertEvents_eq]
    cases v.getLsbD 2 <;> cases s.cr1.spe <;> cases v.getLsbD 6 <;> rfl
  rw [exec_wr32Cr1 h, hevents]
  simp [Cr1.ofWord]

/-- Settles O44: three writes that store nothing. -/
theorem readOnlyRegistersIgnoreWrites : Obligations.ReadOnlyRegistersIgnoreWrites := by
  unfold Obligations.ReadOnlyRegistersIgnoreWrites
  intro s v h
  refine ⟨?_, ?_, ?_⟩
  · rw [exec_write_inert h v (r := .sr) (fun _ => rfl) (by decide) (by decide) (by decide), writeEvents,
      inertEvents_eq]
    rfl
  · rw [exec_write_inert h v (r := .rxcrcr) (fun _ => rfl) (by decide) (by decide) (by decide), writeEvents,
      inertEvents_of_all_tagged rfl]
    rfl
  · rw [exec_write_inert h v (r := .txcrcr) (fun _ => rfl) (by decide) (by decide) (by decide), writeEvents,
      inertEvents_of_all_tagged rfl]
    rfl

/-- Settles O45: three writes that store within a mask. -/
theorem inertRegistersStoreWithinTheirMasks : Obligations.InertRegistersStoreWithinTheirMasks := by
  unfold Obligations.InertRegistersStoreWithinTheirMasks
  intro s v h
  refine ⟨?_, ?_, ?_⟩
  · rw [exec_write_inert h v (r := .crcpr) (fun _ => rfl) (by decide) (by decide) (by decide), writeEvents,
      inertEvents_of_all_tagged rfl]
    rfl
  · rw [exec_write_inert h v (r := .i2scfgr) (fun _ => rfl) (by decide) (by decide) (by decide), writeEvents,
      inertEvents_eq, ← List.append_assoc]
    rfl
  · rw [exec_write_inert h v (r := .i2spr) (fun _ => rfl) (by decide) (by decide) (by decide), writeEvents,
      inertEvents_of_all_tagged rfl]
    rfl

/-! ### Reading back (R139, R56) -/

/-- A write of a register other than DR and then the 32-bit read of it: the read returns what the write left there. -/
theorem serveAll_write_read {s : State} (h : s.Ready) {r : Reg} {v : Word} {w rd : Instr} (hd : r ≠ .dr)
    (hw : ∀ u, effect w u = (writeReg r v u).acknowledge)
    (hr : ∀ u, effect rd u = (readReg r u).2.respond (.data32 (readReg r u).1)) :
    ∃ t, serveAll [w, rd] s = .next t ∧
      t.responses = s.responses ++ [.ack, .data32 (readReg r (writeReg r v s)).1] ∧
      t.cr2 = (writeReg r v s).cr2 := by
  have hfree : (writeReg r v s).guard = .free := (writeReg_guard_of_ne_dr hd v s).trans h.2
  have hfirst : exec w s = .next ((writeReg r v s).respond .ack) := by
    rw [exec_of_ready h, hw, State.acknowledge_of_free hfree]
  have hready : ((writeReg r v s).respond .ack).Ready := ⟨by simpa using h.1, hfree⟩
  have hvalue : (readReg r ((writeReg r v s).respond .ack)).1 = (readReg r (writeReg r v s)).1 :=
    readReg_value_congr (s := (writeReg r v s).respond .ack) (t := writeReg r v s) rfl rfl rfl rfl rfl rfl rfl r
  refine ⟨effect rd ((writeReg r v s).respond .ack), ?_, ?_, ?_⟩
  · rw [serveAll_cons_next hfirst, serveAll_cons_next (exec_of_ready hready rd), serveAll]
  · simp [hr, hvalue]
  · rw [hr, State.respond_cr2, readReg_cr2, State.respond_cr2]

section
variable (v : Word) (s : State)

theorem readCr1_writeCr1 : (readReg .cr1 (writeReg .cr1 v s)).1 = v &&& 0x0000FFFF#32 := by
  rw [readReg, readCr1, writeReg_cr1, if_pos rfl, Cr1.image_ofWord]

theorem readCr2_writeCr2 : (readReg .cr2 (writeReg .cr2 v s)).1 = v &&& 0x00001FF7#32 := by
  rw [readReg, readCr2, writeReg_cr2, if_pos rfl, Cr2.image_ofWord]

theorem readCrcpr_writeCrcpr : (readReg .crcpr (writeReg .crcpr v s)).1 = v &&& s.params.maskCrcpr := by
  rw [readReg, readCrcpr, writeReg_crcpr, if_pos rfl]

theorem readI2scfgr_writeI2scfgr :
    (readReg .i2scfgr (writeReg .i2scfgr v s)).1 = v &&& s.params.maskI2scfgr := by
  rw [readReg, readI2scfgr, writeReg_i2scfgr, if_pos rfl]

theorem readI2spr_writeI2spr : (readReg .i2spr (writeReg .i2spr v s)).1 = v &&& s.params.maskI2spr := by
  rw [readReg, readI2spr, writeReg_i2spr, if_pos rfl]

end

/-- Settles O46: five instances of `serveAll_write_read`; bit 10 is outside the mask of I2SCFGR by R6. -/
theorem writtenRegistersReadBack : Obligations.WrittenRegistersReadBack := by
  unfold Obligations.WrittenRegistersReadBack
  intro s v h
  have ⟨_, _, _, _, hmask, _⟩ := h.1
  refine ⟨?_, ?_, ?_, ?_, ?_⟩
  · obtain ⟨t, ht, hr, -⟩ := serveAll_write_read h (r := .cr1) (w := .wr32Cr1 v) (rd := .rd32Cr1) (by decide)
      (fun _ => rfl) (fun _ => rfl)
    exact ⟨t, ht, readCr1_writeCr1 v s ▸ hr⟩
  · obtain ⟨t, ht, hr, -⟩ := serveAll_write_read h (r := .cr2) (w := .wr32Cr2 v) (rd := .rd32Cr2) (by decide)
      (fun _ => rfl) (fun _ => rfl)
    exact ⟨t, ht, readCr2_writeCr2 v s ▸ hr⟩
  · obtain ⟨t, ht, hr, -⟩ := serveAll_write_read h (r := .crcpr) (w := .wr32Crcpr v) (rd := .rd32Crcpr) (by decide)
      (fun _ => rfl) (fun _ => rfl)
    exact ⟨t, ht, readCrcpr_writeCrcpr v s ▸ hr⟩
  · obtain ⟨t, ht, hr, -⟩ := serveAll_write_read h (r := .i2scfgr) (w := .wr32I2scfgr v) (rd := .rd32I2scfgr)
      (by decide) (fun _ => rfl) (fun _ => rfl)
    exact ⟨t, ht, readI2scfgr_writeI2scfgr v s ▸ hr, by rw [BitVec.getLsbD_and, hmask, Bool.and_false]⟩
  · obtain ⟨t, ht, hr, -⟩ := serveAll_write_read h (r := .i2spr) (w := .wr32I2spr v) (rd := .rd32I2spr) (by decide)
      (fun _ => rfl) (fun _ => rfl)
    exact ⟨t, ht, readI2spr_writeI2spr v s ▸ hr⟩

theorem widened_and_cr1_bits (d : Byte) : (0#24 ++ d) &&& 0x0000FFFF#32 = 0#24 ++ d := by
  have hmask : 0x0000FFFF#32 = 0xFF#24 ++ BitVec.allOnes 8 := rfl
  rw [hmask, BitVec.and_append, BitVec.zero_and, BitVec.and_allOnes]

theorem widened_and_cr2_bits (d : Byte) : (0#24 ++ d) &&& 0x00001FF7#32 = 0#24 ++ (d &&& 0xF7#8) := by
  have hmask : 0x00001FF7#32 = 0x1F#24 ++ 0xF7#8 := rfl
  rw [hmask, BitVec.and_append, BitVec.zero_and]

theorem vrf_ofWord_widened (d : Byte) : (Cr2.ofWord (0#24 ++ d)).vrf = 0#5 := by
  rw [Cr2.ofWord, BitVec.extractLsb'_append_eq_of_le (by decide)]
  rfl

/-- Settles O47: the 8-bit write is the 32-bit write of the zero-extended byte, whose upper bits are 0. -/
theorem narrowWritesClearUpperBits : Obligations.NarrowWritesClearUpperBits := by
  unfold Obligations.NarrowWritesClearUpperBits
  intro s d h
  have hcr1 : ∀ u, effect (.wr8Aligned 0x00#10 d) u = (writeReg .cr1 (0#24 ++ d) u).acknowledge :=
    fun u => by rw [effect, widen8_eq, dwWrite_eq]; rfl
  have hcr2 : ∀ u, effect (.wr8Aligned 0x04#10 d) u = (writeReg .cr2 (0#24 ++ d) u).acknowledge :=
    fun u => by rw [effect, widen8_eq, dwWrite_eq]; rfl
  constructor
  · obtain ⟨t, ht, hr, -⟩ := serveAll_write_read h (by decide) hcr1 (rd := .rd32Cr1) (fun _ => rfl)
    rw [readCr1_writeCr1, widened_and_cr1_bits] at hr
    exact ⟨t, ht, hr⟩
  · obtain ⟨t, ht, hr, hc⟩ := serveAll_write_read h (by decide) hcr2 (rd := .rd32Cr2) (fun _ => rfl)
    rw [readCr2_writeCr2, widened_and_cr2_bits] at hr
    rw [writeReg_cr2, if_pos rfl] at hc
    exact ⟨t, ht, hr, hc ▸ vrf_ofWord_widened d⟩

/-! ### RESET and construction (R46, R170) -/

/-- Settles O48: `resetBlock_eq` on a block whose guard is free. -/
theorem resetRestoresConstructionValues : Obligations.ResetRestoresConstructionValues := by
  unfold Obligations.ResetRestoresConstructionValues
  intro s h
  rw [exec_reset h, resetBlock_eq]
  simp [State.emitAll, State.restoreFields, State.respond, State.construct, resetEvents, levelsAfter, Levels.low,
    h.2]

theorem Cr1.image_zero : Cr1.zero.image = 0#32 := by decide

theorem Cr2.image_zero : Cr2.zero.image = 0#32 := by decide

/-- Settles O50: the fields of `State.construct` and the three images. -/
theorem constructionValues : Obligations.ConstructionValues := by
  unfold Obligations.ConstructionValues
  exact fun p => ⟨Cr1.image_zero, Cr2.image_zero, State.srImage_of_empty (s := State.construct p) rfl, rfl, rfl, rfl,
    rfl, rfl, rfl, rfl, rfl⟩

end Sys2Proof.Machine
end
